-- ==== Sys2Proof/Word.lean ====
section
/-! DEFINITION. The word types of the block (spec/00_scope.md R9). -/

namespace Sys2Proof

/-- A byte: 8 bits, unsigned (R9). Stream data, frame bytes and the 8-bit snapshot registers. -/
abbrev Byte := BitVec 8

/-- A time in ticks (R7 `P_TICKS_PER_S`, R25). The register and the operand that hold one are `P_TIME_W` bits wide;
that width is a parameter (OPEN, default 64), so a time is a number kept below `2 ^ P_TIME_W` (assumption 4). -/
abbrev Ticks := Nat

end Sys2Proof
end

