-- ==== Sys2Proof/Config.lean ====
section
/-! DEFINITION. The static parameters of the block (spec/00_scope.md R7) and the free values of the model. -/

namespace Sys2Proof

/-- `VARIANT`, the protocol variant (R2): a static choice per deployment, the only mode input that changes decoding (R90). -/
inductive Variant where
  | a
  | b
deriving DecidableEq, Repr

/-- The configuration inputs of R7 that a deployment chooses. They are fixed before reset and never change while the
block runs (R7, R36, R234). What R7 derives from them is in Sys2Proof/Machine/Params.lean. -/
structure Config where
  /-- `VARIANT` (R7, R90). -/
  variant : Variant
  /-- `P_TICKS_PER_S`, ticks of `now` per second (R7, OPEN: D11). -/
  ticksPerS : Nat
  /-- `P_TIME_W`, the width in bits of `now` and `last_poll_time` (R7, OPEN, default 64: D11). -/
  timeW : Nat
  /-- `P_SYNC_REEXAMINE`: a diverging 0x0E is re-tested as a marker start (R7, R102; D7). -/
  syncReexamine : Bool
  /-- `P_MAX_RESYNC`: `none` is INF (R7, R124, R125; D16). No effect in Variant B. -/
  maxResync : Option Nat
  /-- `P_HOST`, an opaque string, carried by the OPEN request (R7, R70). -/
  host : String
  /-- `P_PORT`, 16 bits (R7; 93_implementation_defined.md K1), carried by the OPEN request (R70). -/
  port : BitVec 16
  /-- `P_READ_TIMEOUT`, a parameter of the connection collaborator, not of the block (R7, R104; D15): no rule of the
  block reads it. `none` is unset. R7 gives it no unit and no value: that it is a number of ticks of `P_TICKS_PER_S` is a DESIGN
  CHOICE (assumption 15). -/
  readTimeout : Option Ticks
deriving DecidableEq, Repr

/-- The configuration of `State.reset`: every default R7 gives (`P_TIME_W` 64, `P_SYNC_REEXAMINE` 0, `P_MAX_RESYNC` INF,
`P_PORT` 10001, `P_READ_TIMEOUT` unset). R7 gives no default for `VARIANT`, `P_TICKS_PER_S` and `P_HOST`: Variant A, 1 and
the empty string are a DESIGN CHOICE (unsafe, assumption 3). The model runs under every configuration. -/
def Config.default : Config where
  variant := .a
  ticksPerS := 1
  timeW := 64
  syncReexamine := false
  maxResync := none
  host := ""
  port := 10001
  readTimeout := none

/-- The free draw of `last_poll_time` at a RESET event (R40, R230: "unspecified"; 93_implementation_defined.md I11), by
register width and draw number. No body: nothing can be proved of its value (assumption 5). -/
opaque Config.freeTime : (width draw : Nat) → BitVec width

/-- The free draw of the frame buffer's bytes at a RESET event (R40, R230: "unspecified"; I10), by draw number and buffer
index. No body: nothing can be proved of its value (assumption 5). -/
opaque Config.freeByte : (draw index : Nat) → Byte

end Sys2Proof
end

