-- ==== Sys2Proof/Syntax.lean ====
section
/-! DEFINITION. The events and requests of the block, whole: one constructor of `Instr` per row of spec/opcode_table.json;
the phases, the ports and the transfers a port carries (spec/10_state.md R21, spec/30_encoding.md R70 to R87). -/

namespace Sys2Proof

/-- `phase`, the decoder FSM state (R21). Its reserved values 5 to 7 cannot arise, and R21 allows the five-valued type. -/
inductive Phase where
  /-- 0: no poll cycle in progress. -/
  | idle
  /-- 1: a connection has been requested. -/
  | connect
  /-- 2: no marker byte matched yet. -/
  | hunt
  /-- 3: the last byte consumed was 0x0E. -/
  | seen
  /-- 4: the frame buffer is being filled. -/
  | fill
deriving DecidableEq, Repr

/-- The ports whose transfers have a row in the opcode table (R70). The host response port is an output and has none. -/
inductive Port where
  | hostCommand
  | stream
  | connResponse
  | reset
  /-- An output: the block emits on it and takes no event from it (R70, R86). -/
  | connRequest
deriving DecidableEq, Repr

/-- One transfer on a port, as the bits the port carries (R70). -/
inductive Transfer where
  /-- The bits of op[3:0] above operand[P_TIME_W-1:0], as one number (R72). -/
  | command (word : Nat)
  /-- `sym[9:0]`: kind[1:0] above data[7:0] (R79). -/
  | stream (sym : BitVec 10)
  /-- `crsp[1:0]` (R86). -/
  | connResponse (crsp : BitVec 2)
  /-- One reset pulse (R70). -/
  | reset
  /-- `req[1:0]` (R86). -/
  | connRequest (req : BitVec 2)
deriving DecidableEq, Repr

/-- The rows of spec/opcode_table.json, in its order. A host command keeps its operand even where R72 says it is ignored,
and EOF, TIMEOUT and the reserved kind keep the data bits that R79 says are ignored, so that no bit of an encoding is lost. -/
inductive Instr where
  /-- RESERVED_0: op 0x0 (R75, R178). -/
  | reserved0 (operand : Nat)
  /-- UPDATE: op 0x1, `now` (R74, R160 to R163). -/
  | update (now : Ticks)
  /-- RD_TEMP: op 0x2 (R167). -/
  | rdTemp (operand : Nat)
  /-- RD_STATE: op 0x3 (R168). -/
  | rdState (operand : Nat)
  /-- RD_VALVE_TARGET: op 0x4 (R169). -/
  | rdValveTarget (operand : Nat)
  /-- RD_VALVE_ACTUAL: op 0x5 (R170). -/
  | rdValveActual (operand : Nat)
  /-- RD_VALVE_TARGET_ATTR: op 0x6 (R171). -/
  | rdValveTargetAttr (operand : Nat)
  /-- RD_BUFFER_LOWER: op 0x7, Variant B (R172). -/
  | rdBufferLower (operand : Nat)
  /-- RD_BUFFER_UPPER: op 0x8, Variant B (R173). -/
  | rdBufferUpper (operand : Nat)
  /-- RD_FLOW: op 0x9, Variant B (R174). -/
  | rdFlow (operand : Nat)
  /-- RD_CHIMNEY: op 0xA, Variant B (R175). -/
  | rdChimney (operand : Nat)
  /-- RD_FAN: op 0xB, Variant B (R176). -/
  | rdFan (operand : Nat)
  /-- RESERVED_C_TO_F: op 0xC to 0xF, of which op[1:0] is kept (R75, R178). -/
  | reservedCToF (opLow : BitVec 2) (operand : Nat)
  /-- BYTE_HUNT: stream kind 00 in HUNT (R101). -/
  | byteHunt (data : Byte)
  /-- BYTE_SEEN: stream kind 00 in SEEN (R102). -/
  | byteSeen (data : Byte)
  /-- BYTE_FILL: stream kind 00 in FILL (R120). -/
  | byteFill (data : Byte)
  /-- EOF: stream kind 01 (R103). -/
  | eof (data : Byte)
  /-- TIMEOUT: stream kind 10 (R104). -/
  | timeout (data : Byte)
  /-- RESERVED_SYM: stream kind 11 (R81, R105). -/
  | reservedSym (data : Byte)
  /-- CONN_OK: crsp 01 (R164). -/
  | connOk
  /-- CONN_FAIL: crsp 10 (R165). -/
  | connFail
  /-- CONN_RESERVED_00: crsp 00 (R87, R166). -/
  | connReserved00
  /-- CONN_RESERVED_11: crsp 11 (R87, R166). -/
  | connReserved11
  /-- RESET: the reset pulse (R230). -/
  | reset
  /-- REQ_OPEN: req 01, emitted by the block (R86, R162). -/
  | reqOpen
  /-- REQ_CLOSE: req 10, emitted by the block (R86, R205). -/
  | reqClose
deriving DecidableEq, Repr

/-- Why the decoder rejects a transfer. -/
inductive Reject where
  /-- The port is not ready in the phase, so no event of the table is there (R71, R100). -/
  | portNotReady
  /-- `req` 00 or 11, which is never sent (R86; 93_implementation_defined.md I19). -/
  | reservedRequest
deriving DecidableEq, Repr

end Sys2Proof
end

