-- ==== Sys2Proof/WellFormed.lean ====
section
/-! DEFINITION. The one check an instruction's fields can fail: a host command's operand is `P_TIME_W` bits wide
(spec/30_encoding.md R72, R74). Every other field is a bit vector of the width the spec gives it. -/

namespace Sys2Proof

/-- The operand fits the operand field of a host command whose width is `w` = `P_TIME_W` (R72). -/
def operandFits (w operand : Nat) : Bool := decide (operand < 2 ^ w)

/-- Well-formed under a time width `w` = `P_TIME_W`. -/
def Instr.wellFormed (w : Nat) : Instr → Bool
  | .reserved0 x => operandFits w x
  | .update now => operandFits w now
  | .rdTemp x => operandFits w x
  | .rdState x => operandFits w x
  | .rdValveTarget x => operandFits w x
  | .rdValveActual x => operandFits w x
  | .rdValveTargetAttr x => operandFits w x
  | .rdBufferLower x => operandFits w x
  | .rdBufferUpper x => operandFits w x
  | .rdFlow x => operandFits w x
  | .rdChimney x => operandFits w x
  | .rdFan x => operandFits w x
  | .reservedCToF _ x => operandFits w x
  | .byteHunt _ => true
  | .byteSeen _ => true
  | .byteFill _ => true
  | .eof _ => true
  | .timeout _ => true
  | .reservedSym _ => true
  | .connOk => true
  | .connFail => true
  | .connReserved00 => true
  | .connReserved11 => true
  | .reset => true
  | .reqOpen => true
  | .reqClose => true

end Sys2Proof
end

