-- ==== Sys2Proof/Decode.lean ====
section
/-! DEFINITION. Decoding of port transfers to instructions, total on every transfer and rejecting by name, and the encoder
after it (spec/30_encoding.md R70 to R87; spec/40_synchronizer.md R100). -/

namespace Sys2Proof

/-! ### Ports -/

/-- The port a transfer arrives on. -/
def Transfer.port : Transfer → Port
  | .command _ => .hostCommand
  | .stream _ => .stream
  | .connResponse _ => .connResponse
  | .reset => .reset
  | .connRequest _ => .connRequest

/-- Port readiness by phase (the table of R71). The connection request port is an output (R70): no event is taken there. -/
def Port.ready (p : Phase) : Port → Bool
  | .hostCommand => true
  | .stream =>
    match p with
    | .idle => false
    | .connect => false
    | .hunt => true
    | .seen => true
    | .fill => true
  | .connResponse =>
    match p with
    | .idle => false
    | .connect => true
    | .hunt => false
    | .seen => false
    | .fill => false
  | .reset => true
  | .connRequest => false

/-- The collaborator's two input ports (R213). -/
def Port.ofCollaborator : Port → Bool
  | .stream => true
  | .connResponse => true
  | .hostCommand => false
  | .reset => false
  | .connRequest => false

/-- The transfer is within its port's width: a host command is 4 + `P_TIME_W` bits (R72). -/
def Transfer.fits (w : Nat) : Transfer → Bool
  | .command word => decide (word < 2 ^ (w + 4))
  | .stream _ => true
  | .connResponse _ => true
  | .reset => true
  | .connRequest _ => true

/-! ### Bit fields -/

/-- `op[3:0]` of a host command word: bits `w + 3` to `w` (R72). -/
def commandOp (w word : Nat) : BitVec 4 := BitVec.ofNat 4 (word / 2 ^ w)

/-- `operand[P_TIME_W-1:0]` of a host command word: bits `w - 1` to 0, taken whole (R72, R74). -/
def commandOperand (w word : Nat) : Nat := word % 2 ^ w

/-- `kind[1:0]` of a stream symbol: `sym[9:8]` (R79). -/
def symKind (sym : BitVec 10) : BitVec 2 := sym.extractLsb' 8 2

/-- `data[7:0]` of a stream symbol: `sym[7:0]` (R79). -/
def symData (sym : BitVec 10) : Byte := sym.extractLsb' 0 8

/-! ### The decoder -/

/-- The opcode map of R73, `op` matched in full. -/
def decodeCommand (op : BitVec 4) (operand : Nat) : Instr :=
  match op.toNat with
  | 0x0 => .reserved0 operand
  | 0x1 => .update operand
  | 0x2 => .rdTemp operand
  | 0x3 => .rdState operand
  | 0x4 => .rdValveTarget operand
  | 0x5 => .rdValveActual operand
  | 0x6 => .rdValveTargetAttr operand
  | 0x7 => .rdBufferLower operand
  | 0x8 => .rdBufferUpper operand
  | 0x9 => .rdFlow operand
  | 0xA => .rdChimney operand
  | 0xB => .rdFan operand
  | _ => .reservedCToF (op.extractLsb' 0 2) operand

/-- A BYTE symbol is the row of the phase it is taken in (R100). -/
def decodeByte (p : Phase) (data : Byte) : Except Reject Instr :=
  match p with
  | .idle => .error .portNotReady
  | .connect => .error .portNotReady
  | .hunt => .ok (.byteHunt data)
  | .seen => .ok (.byteSeen data)
  | .fill => .ok (.byteFill data)

/-- The stream symbol kinds of R79. -/
def decodeStream (p : Phase) (sym : BitVec 10) : Except Reject Instr :=
  if Port.ready p .stream then
    match (symKind sym).toNat with
    | 0 => decodeByte p (symData sym)
    | 1 => .ok (.eof (symData sym))
    | 2 => .ok (.timeout (symData sym))
    | _ => .ok (.reservedSym (symData sym))
  else .error .portNotReady

/-- The connection response codes of R86 and R87. -/
def decodeConnResponse (p : Phase) (crsp : BitVec 2) : Except Reject Instr :=
  if Port.ready p .connResponse then
    match crsp.toNat with
    | 0 => .ok .connReserved00
    | 1 => .ok .connOk
    | 2 => .ok .connFail
    | _ => .ok .connReserved11
  else .error .portNotReady

/-- The connection request codes of R86; 00 and 11 are never sent. -/
def decodeConnRequest (req : BitVec 2) : Except Reject Instr :=
  match req.toNat with
  | 1 => .ok .reqOpen
  | 2 => .ok .reqClose
  | _ => .error .reservedRequest

/-- The instruction a transfer is, in phase `p`, under the time width `w` = `P_TIME_W` (R70 to R87, R100). -/
def decode (w : Nat) (p : Phase) : Transfer → Except Reject Instr
  | .command word => .ok (decodeCommand (commandOp w word) (commandOperand w word))
  | .stream sym => decodeStream p sym
  | .connResponse crsp => decodeConnResponse p crsp
  | .reset => .ok .reset
  | .connRequest req => decodeConnRequest req

/-! ### The encoder -/

/-- A host command word: `op` above the operand (R72). -/
def commandWord (w : Nat) (op : BitVec 4) (operand : Nat) : Transfer := .command (op.toNat * 2 ^ w + operand)

/-- A stream symbol: `kind` above `data` (R79). -/
def streamSym (kind : BitVec 2) (data : Byte) : Transfer := .stream (kind ++ data)

/-- The transfer of a well-formed instruction (the tables of R73, R79 and R86). -/
def encode (w : Nat) : Instr → Transfer
  | .reserved0 x => commandWord w 0x0 x
  | .update now => commandWord w 0x1 now
  | .rdTemp x => commandWord w 0x2 x
  | .rdState x => commandWord w 0x3 x
  | .rdValveTarget x => commandWord w 0x4 x
  | .rdValveActual x => commandWord w 0x5 x
  | .rdValveTargetAttr x => commandWord w 0x6 x
  | .rdBufferLower x => commandWord w 0x7 x
  | .rdBufferUpper x => commandWord w 0x8 x
  | .rdFlow x => commandWord w 0x9 x
  | .rdChimney x => commandWord w 0xA x
  | .rdFan x => commandWord w 0xB x
  | .reservedCToF opLow x => commandWord w (0b11#2 ++ opLow) x
  | .byteHunt d => streamSym 0b00 d
  | .byteSeen d => streamSym 0b00 d
  | .byteFill d => streamSym 0b00 d
  | .eof d => streamSym 0b01 d
  | .timeout d => streamSym 0b10 d
  | .reservedSym d => streamSym 0b11 d
  | .connOk => .connResponse 0b01
  | .connFail => .connResponse 0b10
  | .connReserved00 => .connResponse 0b00
  | .connReserved11 => .connResponse 0b11
  | .reset => .reset
  | .reqOpen => .connRequest 0b01
  | .reqClose => .connRequest 0b10

/-- The phases of an instruction's row (the "phases" column of spec/opcode_table.json; R71, R100). A connection request is
an output and its code reads the same in every phase. -/
def Instr.inPhase (p : Phase) : Instr → Bool
  | .byteHunt _ => decide (p = .hunt)
  | .byteSeen _ => decide (p = .seen)
  | .byteFill _ => decide (p = .fill)
  | .eof _ => Port.ready p .stream
  | .timeout _ => Port.ready p .stream
  | .reservedSym _ => Port.ready p .stream
  | .connOk => Port.ready p .connResponse
  | .connFail => Port.ready p .connResponse
  | .connReserved00 => Port.ready p .connResponse
  | .connReserved11 => Port.ready p .connResponse
  | .reserved0 _ => true
  | .update _ => true
  | .rdTemp _ => true
  | .rdState _ => true
  | .rdValveTarget _ => true
  | .rdValveActual _ => true
  | .rdValveTargetAttr _ => true
  | .rdBufferLower _ => true
  | .rdBufferUpper _ => true
  | .rdFlow _ => true
  | .rdChimney _ => true
  | .rdFan _ => true
  | .reservedCToF _ _ => true
  | .reset => true
  | .reqOpen => true
  | .reqClose => true

/-! ### The host's table words -/

/-- The transfer that a table word stands for. The table's word does not name its port, so its width does (assumption 8):
1 bit is the reset pulse, 2 bits a connection response, up to 8 bits a host command (op in bits 3 to 0 as the table numbers
it, the operand above it), up to 16 bits a stream symbol, and a wider word a host command with its operand. -/
def tableTransfer (timeW nbits w : Nat) : Option Transfer :=
  if nbits = 1 then (if w % 2 = 1 then some .reset else none)
  else if nbits = 2 then some (.connResponse (BitVec.ofNat 2 w))
  else if 8 < nbits && decide (nbits ≤ 16) then some (.stream (BitVec.ofNat 10 w))
  else some (commandWord timeW (BitVec.ofNat 4 w) (w / 16 % 2 ^ timeW))

/-- A phase in which a table word's port is ready, keeping `p` where it is (R71): CONNECT for a connection response, HUNT for
a stream symbol. -/
def Port.readyPhase (p : Phase) (port : Port) : Phase :=
  if Port.ready p port then p
  else
    match port with
    | .connResponse => .connect
    | .stream => .hunt
    | .hostCommand => p
    | .reset => p
    | .connRequest => p

/-- The host's question: the instruction the decoder reads from a table word of `nbits` bits, from the phase after reset. -/
def decodeTableWord (nbits w : Nat) : Option Instr :=
  match tableTransfer Config.default.timeW nbits w with
  | none => none
  | some t =>
    match decode Config.default.timeW (Port.readyPhase .idle t.port) t with
    | .ok i => some i
    | .error _ => none

end Sys2Proof
end

