-- ==== Sys2Proof/Machine/Params.lean ====
section
/-! DEFINITION. What spec/00_scope.md R7 derives from the configuration, and its literals, taken as the spec gives them (R8). -/

namespace Sys2Proof

/-- `FRAME_LEN`, the bytes on the wire per frame, marker included (R7, R82). -/
def Config.frameLen (c : Config) : Nat :=
  match c.variant with
  | .a => 18
  | .b => 56

/-- `N` = `FRAME_LEN - 2`: the frame buffer's size (R7, R23). -/
def Config.n (c : Config) : Nat := c.frameLen - 2

/-- `COOLDOWN_S` (R7, R244). -/
def Config.cooldownS (c : Config) : Nat :=
  match c.variant with
  | .a => 10
  | .b => 30

/-- `COOLDOWN_TICKS` = `COOLDOWN_S * P_TICKS_PER_S` (R7). -/
def Config.cooldownTicks (c : Config) : Nat := c.cooldownS * c.ticksPerS

namespace Machine

/-- `START_MARKER`, first byte (R7, R82). -/
def startMarker1 : Byte := 0x0E

/-- `START_MARKER`, second byte (R7, R82). -/
def startMarker2 : Byte := 0xFF

/-- `END_MARKER`, first byte, Variant A (R7, R83). -/
def endMarker1 : Byte := 0x0D

/-- `END_MARKER`, second byte, Variant A (R7, R83). -/
def endMarker2 : Byte := 0xFF

/-- Buffer index of the end marker's first byte (R83; 90_conflicts.md C1). -/
def endMarkerIndex1 : Nat := 14

/-- Buffer index of the end marker's second byte (R83; C1). -/
def endMarkerIndex2 : Nat := 15

/-- `FLAG_INDEX`: buffer index of Variant B's overflow flag (R7, R84; C2). -/
def flagIndex : Nat := 53

/-- The temperature offset that a set overflow flag adds (R143; 255, not 256: R8). -/
def overflowOffset : BitVec 16 := 255

end Machine

end Sys2Proof
end

