-- ==== Sys2Proof/Machine/State.lean ====
section
/-! DEFINITION. The state of the block (spec/10_state.md R20 to R42), the transfers on its ports, the ways a step can stop,
and the state after reset (R40, R230). -/

namespace Sys2Proof.Machine

/-- Response status (the codes are `Status.code`; R77). Codes 0xB to 0xF are never emitted. -/
inductive Status where
  | okData
  | okSkipped
  | okUpdated
  | errStreamInterrupted
  | errIo
  | errTimeout
  | errResyncLimit
  | errAborted
  | errNoData
  | errNotPresent
  | errIllegalCmd
deriving DecidableEq, Repr

/-- One transfer on the host response port: `status[3:0]` and `data[15:0]` (R76). -/
structure Response where
  status : Status
  data : BitVec 16
deriving DecidableEq, Repr

/-- One transfer on the connection request port (R70, R86): OPEN carries `P_HOST` and `P_PORT`. -/
inductive Request where
  | openConn (host : String) (port : BitVec 16)
  | closeConn
deriving DecidableEq, Repr

/-- One output of a step (R11). -/
inductive Output where
  | response (r : Response)
  | request (r : Request)
deriving DecidableEq, Repr

/-- The collaborator's connection of the current cycle (R86, R213): none, being opened, or open. -/
inductive Connection where
  | closed
  | opening
  | opened
deriving DecidableEq, Repr

/-- The snapshot registers of both variants (R28 to R32). -/
structure Reading where
  /-- `snap_temperature` (R28). -/
  temperature : BitVec 16
  /-- `snap_valve_target` (R29). -/
  valveTarget : Byte
  /-- `snap_valve_actual` (R30). -/
  valveActual : Byte
  /-- `snap_status_raw` (R31). -/
  statusRaw : Byte
  /-- `snap_state`, the 3-bit state code (R32, R88). -/
  state : BitVec 3
deriving DecidableEq, Repr

/-- The five Variant B snapshot registers (R33). In Variant A they do not exist (R34): nothing reads or writes them there. -/
structure AuxReading where
  bufferLower : Byte
  bufferUpper : Byte
  flow : Byte
  chimney : Byte
  fan : Byte
deriving DecidableEq, Repr

/-- The frame buffer's bytes by index, in one canonical form (`Memory.wf` in Ops.lean): indices strictly rising, no listed
byte equal to what an unlisted index reads as. -/
abbrev Memory := List Host.Cell

/-- The state. The first ten fields after `cfg` are the spec's (R20 to R34). `inputs`, `out` and `conn` are the block's ports
as the spec describes them (R11, R70, R213); `draws` is the model's own counter of free draws (assumption 5). -/
structure State where
  /-- The static configuration inputs (R7, R36, R70). No step changes them. -/
  cfg : Config
  /-- `phase` (R21). -/
  phase : Phase
  /-- `cnt`, 6 bits (R22). -/
  cnt : BitVec 6
  /-- `buf`, the frame buffer of `N` bytes (R23, R50). -/
  buf : Memory
  /-- `resync_cnt`, wide enough to hold `P_MAX_RESYNC` (R24). -/
  resyncCnt : Nat
  /-- `last_poll_time`, `P_TIME_W` bits (R25). -/
  lastPollTime : Ticks
  /-- `last_poll_valid` (R26). -/
  lastPollValid : Bool
  /-- `snap_valid` (R27). -/
  snapValid : Bool
  /-- The snapshot registers of both variants (R28 to R32). -/
  snap : Reading
  /-- The snapshot registers of Variant B (R33). -/
  aux : AuxReading
  /-- The transfers the environment has on offer at the input ports, in the order it offers them (R11, R71, R208;
  assumption 6). -/
  inputs : List Transfer
  /-- What the last step emitted, in order (R10, R11, R208). -/
  out : List Output
  /-- The collaborator's connection (R213, R231; assumption 11). -/
  conn : Connection
  /-- How many free draws have been taken. -/
  draws : Nat
deriving DecidableEq, Repr

/-- How the machine stops with a fault. -/
inductive Fault where
  /-- A buffer access outside `0 .. N-1`, an index R52 says is never formed. Raised by BYTE_FILL in FILL with `cnt >= N`,
  which no run from reset reaches (R41). That such a store faults is a DESIGN CHOICE (assumption 16). Safe. -/
  | bufIndexOutOfRange
deriving DecidableEq, Repr

/-- Why there is no step. -/
inductive Refusal where
  /-- An instruction without a meaning yet. No arm of `exec` says it. Safe. -/
  | notModelled (mnemonic : String)
  /-- No ready port offers an event: "No step happens without an input event" (R11, R71, R216). Raised by `step`. Safe. -/
  | noEvent
  /-- The phase does not accept the event: the block takes no step for it and it stays with the environment (R71, R100;
  93_implementation_defined.md I20). Raised by the meanings of the stream and connection response rows in the phases their
  row does not name, where `step` never calls them. Safe. -/
  | eventNotAccepted
  /-- The decoder rejects the transfer. Raised by `step`; no transfer on a ready port is rejected (R100). Safe. -/
  | rejected (r : Reject)
deriving DecidableEq, Repr

/-- The snapshot registers' reset values: 0, masked by `snap_valid` = 0 (R40, D13). -/
def Reading.zero : Reading := ⟨0, 0, 0, 0, 0⟩

/-- The Variant B snapshot registers' reset values: 0, masked (R40, D13). -/
def AuxReading.zero : AuxReading := ⟨0, 0, 0, 0, 0⟩

/-- The state after reset under a configuration (R40, R230). `buf` and `last_poll_time` are unspecified there: nothing listed
and 0 are a DESIGN CHOICE (unsafe, assumptions 1 and 2). No event is on offer and no connection exists (R231). -/
def State.resetWith (cfg : Config) : State where
  cfg := cfg
  phase := .idle
  cnt := 0
  buf := []
  resyncCnt := 0
  lastPollTime := 0
  lastPollValid := false
  snapValid := false
  snap := Reading.zero
  aux := AuxReading.zero
  inputs := []
  out := []
  conn := .closed
  draws := 0

/-- The machine right after reset, under the default configuration (assumption 3). -/
def State.reset : State := State.resetWith Config.default

end Sys2Proof.Machine
end

