-- ==== Sys2Proof/Machine/Flags.lean ====
section
/-! DEFINITION. The block's flags and the tests over them (spec/10_state.md R38; spec/43_poll_gate_host.md R160, R181). -/

namespace Sys2Proof.Machine

/-- Busy: a poll cycle is in progress (R38). -/
def State.busy (s : State) : Bool := decide (s.phase ≠ .idle)

/-- `elapsed`: `(now - last_poll_time) mod 2^P_TIME_W` (R160, R181). -/
def State.elapsed (now : Ticks) (s : State) : Ticks :=
  (BitVec.ofNat s.cfg.timeW now - BitVec.ofNat s.cfg.timeW s.lastPollTime).toNat

/-- The gate holds an UPDATE back: a poll has passed since reset and less than the cooldown has elapsed (R160). -/
def State.withinCooldown (now : Ticks) (s : State) : Bool :=
  s.lastPollValid && decide (s.elapsed now < s.cfg.cooldownTicks)

/-- The overflow flag byte is set: any nonzero value (R38, R143; D9). -/
def overflowSet (flag : Byte) : Bool := decide (flag ≠ 0)

/-- `P_MAX_RESYNC` resynchronizations have been made: never where it is INF (R124). -/
def State.resyncCapReached (s : State) : Bool :=
  match s.cfg.maxResync with
  | none => false
  | some cap => decide (s.resyncCnt = cap)

end Sys2Proof.Machine
end

