-- ==== Sys2Proof/Machine/Operands.lean ====
section
/-! DEFINITION. The codes of the block's ports and registers, the packing of response data and the assembly of frame fields
(spec/30_encoding.md R76 to R78, R86, R88, R94; spec/10_state.md R21). -/

namespace Sys2Proof.Machine

/-! ### Codes -/

/-- The 3-bit value of `phase` (R21). -/
def phaseCode : Phase → BitVec 3
  | .idle => 0
  | .connect => 1
  | .hunt => 2
  | .seen => 3
  | .fill => 4

/-- `status[3:0]` (R77). -/
def Status.code : Status → BitVec 4
  | .okData => 0x0
  | .okSkipped => 0x1
  | .okUpdated => 0x2
  | .errStreamInterrupted => 0x3
  | .errIo => 0x4
  | .errTimeout => 0x5
  | .errResyncLimit => 0x6
  | .errAborted => 0x7
  | .errNoData => 0x8
  | .errNotPresent => 0x9
  | .errIllegalCmd => 0xA

/-- The bits of a host response: `status[3:0]` and `data[15:0]` (R70, R76). -/
def Response.word (r : Response) : BitVec 20 := r.status.code ++ r.data

/-- `req[1:0]` (R86). -/
def Request.code : Request → BitVec 2
  | .openConn _ _ => 0b01
  | .closeConn => 0b10

/-- The closed enumeration of operating states (R32, R88); Unknown's raw byte is `snap_status_raw` (R147). -/
inductive OperatingState where
  | ready
  | igniting
  | heating
  | emberBed
  | heatingFault
  | doorOpen
  | unknown
deriving DecidableEq, Repr

/-- The 3-bit code in `snap_state` (R88). Code 6 is reserved and never produced (R89). -/
def OperatingState.code : OperatingState → BitVec 3
  | .ready => 0
  | .igniting => 1
  | .heating => 2
  | .emberBed => 3
  | .heatingFault => 4
  | .doorOpen => 5
  | .unknown => 7

/-! ### Response data (R78) -/

/-- A one-byte field's response data: `zext_16(field[7:0])` (R78). -/
def byteData (b : Byte) : BitVec 16 := b.setWidth 16

/-- RD_STATE's response data: five zeros, then the state code, then the raw status byte (R78, R168). -/
def stateData (code : BitVec 3) (raw : Byte) : BitVec 16 := 0#5 ++ code ++ raw

/-! ### Frame fields (R94) -/

/-- Two bytes, the first the more significant: the one big-endian field (R54, R94, R141). -/
def bigEndian16 (hi lo : Byte) : BitVec 16 := (hi.setWidth 16 <<< 8) ||| lo.setWidth 16

/-- A byte, plus 255 where the overflow flag is set: Variant B's temperature (R94, R143). -/
def offsetTemperature (value : Byte) (overflow : Bool) : BitVec 16 :=
  value.setWidth 16 + (if overflow then overflowOffset else 0)

end Sys2Proof.Machine
end

