-- ==== Sys2Proof/Machine/Ops.lean ====
section
/-! DEFINITION. The operations the meanings share: the frame buffer's bytes, the ports, the outputs, ending a cycle with an
error, starting one, and the snapshot's commit. -/

namespace Sys2Proof.Machine

/-! ### The frame buffer -/

/-- What an unlisted index reads as. The spec gives the buffer no reset contents (R40); 0 is a DESIGN CHOICE (unsafe,
assumption 1). -/
def unwrittenByte : Byte := 0

/-- `buf[i]`, `MemRead(i, 1)` (R10). -/
def Memory.read : Memory → Nat → Byte
  | [], _ => unwrittenByte
  | (a, b) :: m, i => if a = i then b else Memory.read m i

/-- A cell in front of a memory, listed only where it differs from an unlisted one. -/
def Memory.cons (i : Nat) (v : Byte) (m : Memory) : Memory :=
  if v = unwrittenByte then m else (i, v) :: m

/-- `buf[i] <- v`, `MemWrite(i, 1, v)` (R10), keeping the canonical form. -/
def Memory.write : Memory → Nat → Byte → Memory
  | [], i, v => Memory.cons i v []
  | (a, b) :: m, i, v =>
    if i < a then Memory.cons i v ((a, b) :: m)
    else if i = a then Memory.cons i v m
    else (a, b) :: Memory.write m i v

/-- Indices strictly rising from `lo` on, below `hi`, and no listed byte equal to an unlisted one. -/
def Memory.wfBetween (lo hi : Nat) : Memory → Bool
  | [] => true
  | (a, b) :: m => decide (lo ≤ a) && decide (a < hi) && decide (b ≠ unwrittenByte) && Memory.wfBetween (a + 1) hi m

/-- The canonical form of a buffer of `n` bytes. -/
def Memory.wf (n : Nat) (m : Memory) : Bool := Memory.wfBetween 0 n m

/-- The buffer of `n` bytes whose byte `i` is `f i`. -/
def Memory.ofBytes (f : Nat → Byte) : Nat → Memory
  | 0 => []
  | n + 1 => (Memory.ofBytes f n).write n (f n)

/-! ### The input ports -/

/-- The first transfer on offer whose port is ready in phase `p`, and the others in their order: an event offered at a port
that is not ready stays with the environment (R71, R100). That the first is taken is a DESIGN CHOICE (assumption 6). -/
def takeReady (p : Phase) : List Transfer → Option (Transfer × List Transfer)
  | [] => none
  | t :: ts =>
    if Port.ready p t.port then some (t, ts)
    else
      match takeReady p ts with
      | none => none
      | some (u, us) => some (u, t :: us)

/-- The environment offers one more transfer, after those it has on offer (R11, R213, R214). -/
def State.offer (t : Transfer) (s : State) : State := { s with inputs := s.inputs ++ [t] }

/-- The state in which the next event taken is consumed: it has left its port and the step has emitted nothing yet (R11). -/
def State.consume (rest : List Transfer) (s : State) : State := { s with inputs := rest, out := [] }

/-- The transfers left when the collaborator discards "every undelivered byte and every undelivered answer" (R213). -/
def withoutCollaborator (ts : List Transfer) : List Transfer := ts.filter (fun t => !t.port.ofCollaborator)

/-- The connection that a phase reached by the rules has (R86, R164, R213, R231). -/
def connectionIn : Phase → Connection
  | .idle => .closed
  | .connect => .opening
  | .hunt => .opened
  | .seen => .opened
  | .fill => .opened

/-- The state in which a table word is the next event: the transfer is offered first, and where its port is not ready the
phase is one in which it is, with that phase's connection (assumption 8). -/
def State.place (t : Transfer) (s : State) : State :=
  if Port.ready s.phase t.port then { s with inputs := t :: s.inputs }
  else
    { s with
      inputs := t :: s.inputs
      phase := Port.readyPhase s.phase t.port
      conn := connectionIn (Port.readyPhase s.phase t.port) }

/-- The table word as the next event, where it stands for a transfer. -/
def State.placeWord (nbits w : Nat) (s : State) : State :=
  match tableTransfer s.cfg.timeW nbits w with
  | none => s
  | some t => s.place t

/-! ### The outputs -/

/-- Emit one output in this step, after those already emitted in it (R10, R11). -/
def State.emit (o : Output) (s : State) : State := { s with out := s.out ++ [o] }

/-- `Respond(status, data)` (R10). -/
def State.respond (status : Status) (data : BitVec 16) (s : State) : State := s.emit (.response ⟨status, data⟩)

/-- `ConnReq(OPEN)`: connect to `P_HOST`:`P_PORT` (R10, R70, R86). -/
def State.requestOpen (s : State) : State :=
  { s.emit (.request (.openConn s.cfg.host s.cfg.port)) with conn := .opening }

/-- `ConnReq(CLOSE)`: the connection is released, and the collaborator discards what it has not delivered (R10, R86, R213). -/
def State.requestClose (s : State) : State :=
  { s.emit (.request .closeConn) with conn := .closed, inputs := withoutCollaborator s.inputs }

/-! ### The sequencer -/

/-- `phase <- p` (R10). -/
def State.enterPhase (p : Phase) (s : State) : State := { s with phase := p }

/-- `cnt <- 0` (R102, R120). -/
def State.clearCnt (s : State) : State := { s with cnt := 0 }

/-- No cycle in progress: `phase <- IDLE; cnt <- 0` (R150, R205). -/
def State.toIdle (s : State) : State := (s.enterPhase .idle).clearCnt

/-- The collaborator's connection becomes `c` (R86, R213). -/
def State.withConn (c : Connection) (s : State) : State := { s with conn := c }

/-! ### Ending a cycle with an error (R200, R205) -/

/-- The errors a rule raises (R200). FrameInvalid is handled inside the cycle (R124), and Aborted belongs to R163. -/
inductive CycleError where
  | streamInterrupted
  | connectFailed
  | collaboratorError
  | readTimeout
  | resyncLimit
deriving DecidableEq, Repr

/-- `code(E)` (R200). -/
def CycleError.status : CycleError → Status
  | .streamInterrupted => .errStreamInterrupted
  | .connectFailed => .errIo
  | .collaboratorError => .errIo
  | .readTimeout => .errTimeout
  | .resyncLimit => .errResyncLimit

/-- `if phase != CONNECT: ConnReq(CLOSE)` (R205). In CONNECT the attempt has been answered and no connection exists. -/
def State.closeUnlessConnect (s : State) : State :=
  if s.phase = .connect then s.withConn .closed else s.requestClose

/-- `raise E` (R205): the response, then CLOSE, then IDLE. Nothing is saved, no handler runs and the snapshot is untouched;
there is no return from it (R209). -/
def State.raiseError (e : CycleError) (s : State) : State :=
  ((s.respond e.status 0).closeUnlessConnect).toIdle

/-! ### Starting a cycle (R162, R163) -/

/-- The registers a cycle's start writes (R162, R163). -/
def State.startRegs (now : Ticks) (s : State) : State :=
  { s with lastPollTime := now, lastPollValid := true, resyncCnt := 0, cnt := 0, phase := .connect }

/-- A poll cycle starts with a fresh connection (R162). -/
def State.startCycle (now : Ticks) (s : State) : State := (s.startRegs now).requestOpen

/-- The cycle in progress ends with ERR_ABORTED and its connection is released (R163). -/
def State.abortCycle (s : State) : State := (s.respond .errAborted 0).requestClose

/-! ### The snapshot -/

/-- The registers that both variants commit (R151). -/
def State.commitShared (r : Reading) (s : State) : State := { s with snap := r, snapValid := true }

/-- The registers that Variant B commits beside them (R151). -/
def State.commitAux (a : AuxReading) (s : State) : State := { s with aux := a }

end Sys2Proof.Machine
end

