-- ==== Sys2Proof/Machine/ConnPort.lean ====
section
/-! DEFINITION. The connection port: the collaborator's responses (spec/43_poll_gate_host.md R164 to R166) and the requests the
block emits (spec/30_encoding.md R86). -/

namespace Sys2Proof.Machine

/-- CONN_OK (R164): the connection is open and the marker hunt starts. -/
def execConnOk (s : State) : Host.Outcome State Fault Refusal :=
  if s.phase = .connect then .next ((s.enterPhase .hunt).withConn .opened) else .refused .eventNotAccepted

/-- A response that ends the cycle in CONNECT (R165, R166). -/
def connectFailed (s : State) : Host.Outcome State Fault Refusal :=
  if s.phase = .connect then .next (s.raiseError .connectFailed) else .refused .eventNotAccepted

/-- CONN_FAIL (R165). -/
def execConnFail (s : State) : Host.Outcome State Fault Refusal := connectFailed s

/-- Reserved `crsp` 00, taken as CONN_FAIL (R87, R166). -/
def execConnReserved00 (s : State) : Host.Outcome State Fault Refusal := connectFailed s

/-- Reserved `crsp` 11, taken as CONN_FAIL (R87, R166). -/
def execConnReserved11 (s : State) : Host.Outcome State Fault Refusal := connectFailed s

/-- REQ_OPEN, an output of the block (R86): its meaning is the emission `ConnReq(OPEN)` (assumption 7). -/
def execReqOpen (s : State) : Host.Outcome State Fault Refusal := .next s.requestOpen

/-- REQ_CLOSE, an output of the block (R86): its meaning is the emission `ConnReq(CLOSE)` (assumption 7). -/
def execReqClose (s : State) : Host.Outcome State Fault Refusal := .next s.requestClose

end Sys2Proof.Machine
end

