-- ==== Sys2Proof/Machine/FieldDecoder.lean ====
section
/-! DEFINITION. The Field Decoder: the pure decoding of a completed frame, the commit and a valid frame's completion
(spec/42_field_decoder.md R140 to R152). A frame `f` is the buffer with all its `N` bytes stored (R120). -/

namespace Sys2Proof.Machine

/-- `StateMap(s)` (R145). -/
def stateMap (s : Byte) : OperatingState :=
  match s.toNat with
  | 0 => .ready
  | 2 => .igniting
  | 3 => .heating
  | 4 => .heating
  | 7 => .emberBed
  | 8 => .emberBed
  | 97 => .heatingFault
  | 98 => .doorOpen
  | _ => .unknown

/-- `Decode_A` (R141, R142). -/
def decodeA (f : Memory) : Reading where
  temperature := bigEndian16 (f.read 0) (f.read 1)
  valveActual := f.read 2
  valveTarget := f.read 3
  statusRaw := f.read 4
  state := (stateMap (f.read 4)).code

/-- `Decode_B`'s fields that both variants have (R143, R144). -/
def decodeB (f : Memory) : Reading where
  temperature := offsetTemperature (f.read 1) (overflowSet (f.read flagIndex))
  valveTarget := f.read 2
  valveActual := f.read 3
  statusRaw := f.read 4
  state := (stateMap (f.read 4)).code

/-- `Decode_B`'s own fields (R144). -/
def decodeAux (f : Memory) : AuxReading where
  bufferLower := f.read 34
  bufferUpper := f.read 36
  flow := f.read 37
  chimney := f.read 47
  fan := f.read 50

/-- `Commit(Decode_VARIANT(F))` (R150, R151): every snapshot register the variant has, and `snap_valid`. -/
def State.commitFrame (f : Memory) (s : State) : State :=
  match s.cfg.variant with
  | .a => s.commitShared (decodeA f)
  | .b => (s.commitShared (decodeB f)).commitAux (decodeAux f)

/-- Valid-frame completion (R150): the commit, the response, then CLOSE, then IDLE. -/
def State.completeValid (f : Memory) (s : State) : State :=
  (((s.commitFrame f).respond .okUpdated 0).requestClose).toIdle

end Sys2Proof.Machine
end

