-- ==== Sys2Proof/Machine/FrameReader.lean ====
section
/-! DEFINITION. The Frame Reader and the Frame Validator (spec/41_frame_reader_validator.md R120 to R128). -/

namespace Sys2Proof.Machine

/-- Variant A's check of a completed frame: both end marker bytes, in order (R122). -/
def endMarkerValid (f : Memory) : Bool :=
  decide (f.read endMarkerIndex1 = endMarker1) && decide (f.read endMarkerIndex2 = endMarker2)

/-- `resync_cnt <- resync_cnt + 1` (R124). -/
def State.countResync (s : State) : State := { s with resyncCnt := s.resyncCnt + 1 }

/-- FrameInvalid: the hunt starts again on the same connection, and the resynchronization is counted where `P_MAX_RESYNC` is
finite (R124). -/
def State.resync (s : State) : State :=
  match s.cfg.maxResync with
  | none => s.enterPhase .hunt
  | some _ => s.countResync.enterPhase .hunt

/-- FrameInvalid handling: a resynchronization, or ResyncLimit where the cap is reached (R124, R125). -/
def State.frameInvalid (s : State) : State :=
  if s.resyncCapReached then s.raiseError .resyncLimit else s.resync

/-- Validation of the completed frame by variant (R120, R122, R123). -/
def State.validateFrame (f : Memory) (s : State) : State :=
  match s.cfg.variant with
  | .a => if endMarkerValid f then s.completeValid f else s.frameInvalid
  | .b => s.completeValid f

/-- `buf[cnt] <- b` (R120). -/
def State.storeByte (b : Byte) (s : State) : State := { s with buf := s.buf.write s.cnt.toNat b }

/-- The frame is not yet full: `cnt <- cnt + 1` (R120). -/
def State.countByte (s : State) : State := { s with cnt := s.cnt + 1 }

/-- The frame is complete: `cnt <- 0`, and the frame is validated as read with its last byte in place (R120, R121). -/
def State.completeFrame (s : State) : State := State.validateFrame s.buf s.clearCnt

/-- BYTE in FILL (R120). An index outside `0 .. N-1` is never formed (R52): that a store there
faults is a DESIGN CHOICE (assumption 16). -/
def execByteFill (b : Byte) (s : State) : Host.Outcome State Fault Refusal :=
  if s.phase = .fill then
    if s.cnt.toNat < s.cfg.n then
      if s.cnt.toNat + 1 < s.cfg.n then .next (s.storeByte b).countByte
      else .next (s.storeByte b).completeFrame
    else .fault .bufIndexOutOfRange
  else .refused .eventNotAccepted

end Sys2Proof.Machine
end

