-- ==== Sys2Proof/Machine/HostReads.lean ====
section
/-! DEFINITION. The host's read commands and the reserved opcodes (spec/43_poll_gate_host.md R167 to R178). The operand of each
is ignored (R72). -/

namespace Sys2Proof.Machine

/-- A read of a field that both variants have: ERR_NO_DATA until the first commit (R177). -/
def sharedRead (data : BitVec 16) (s : State) : State :=
  if s.snapValid then s.respond .okData data else s.respond .errNoData 0

/-- A read of a field that only Variant B has: ERR_NOT_PRESENT first, since it depends only on the configuration (R34, R177). -/
def variantBRead (data : BitVec 16) (s : State) : State :=
  match s.cfg.variant with
  | .a => s.respond .errNotPresent 0
  | .b => sharedRead data s

/-- RD_TEMP (R167). -/
def execRdTemp (_operand : Nat) (s : State) : Host.Outcome State Fault Refusal :=
  .next (sharedRead s.snap.temperature s)

/-- RD_STATE (R168). -/
def execRdState (_operand : Nat) (s : State) : Host.Outcome State Fault Refusal :=
  .next (sharedRead (stateData s.snap.state s.snap.statusRaw) s)

/-- RD_VALVE_TARGET (R169). -/
def execRdValveTarget (_operand : Nat) (s : State) : Host.Outcome State Fault Refusal :=
  .next (sharedRead (byteData s.snap.valveTarget) s)

/-- RD_VALVE_ACTUAL (R170). -/
def execRdValveActual (_operand : Nat) (s : State) : Host.Outcome State Fault Refusal :=
  .next (sharedRead (byteData s.snap.valveActual) s)

/-- RD_VALVE_TARGET_ATTR (R171): the actual position. -/
def execRdValveTargetAttr (_operand : Nat) (s : State) : Host.Outcome State Fault Refusal :=
  .next (sharedRead (byteData s.snap.valveActual) s)

/-- RD_BUFFER_LOWER (R172). -/
def execRdBufferLower (_operand : Nat) (s : State) : Host.Outcome State Fault Refusal :=
  .next (variantBRead (byteData s.aux.bufferLower) s)

/-- RD_BUFFER_UPPER (R173). -/
def execRdBufferUpper (_operand : Nat) (s : State) : Host.Outcome State Fault Refusal :=
  .next (variantBRead (byteData s.aux.bufferUpper) s)

/-- RD_FLOW (R174). -/
def execRdFlow (_operand : Nat) (s : State) : Host.Outcome State Fault Refusal :=
  .next (variantBRead (byteData s.aux.flow) s)

/-- RD_CHIMNEY (R175). -/
def execRdChimney (_operand : Nat) (s : State) : Host.Outcome State Fault Refusal :=
  .next (variantBRead (byteData s.aux.chimney) s)

/-- RD_FAN (R176). -/
def execRdFan (_operand : Nat) (s : State) : Host.Outcome State Fault Refusal :=
  .next (variantBRead (byteData s.aux.fan) s)

/-- Reserved opcode 0x0 (R75, R178). -/
def execReserved0 (_operand : Nat) (s : State) : Host.Outcome State Fault Refusal :=
  .next (s.respond .errIllegalCmd 0)

/-- Reserved opcodes 0xC to 0xF (R75, R178). -/
def execReservedCToF (_opLow : BitVec 2) (_operand : Nat) (s : State) : Host.Outcome State Fault Refusal :=
  .next (s.respond .errIllegalCmd 0)

end Sys2Proof.Machine
end

