-- ==== Sys2Proof/Machine/PollGate.lean ====
section
/-! DEFINITION. The Poll Gate: UPDATE (spec/43_poll_gate_host.md R160 to R163). -/

namespace Sys2Proof.Machine

/-- UPDATE (R160): skip within the cooldown (R161), start a cycle when IDLE (R162), preempt the cycle in progress (R163). -/
def execUpdate (now : Ticks) (s : State) : Host.Outcome State Fault Refusal :=
  if s.withinCooldown now then .next (s.respond .okSkipped 0)
  else if s.phase = .idle then .next (s.startCycle now)
  else .next (s.abortCycle.startCycle now)

end Sys2Proof.Machine
end

