-- ==== Sys2Proof/Machine/ResetPort.lean ====
section
/-! DEFINITION. The reset port: the RESET event (spec/70_reset_and_hazards.md R230, R231). -/

namespace Sys2Proof.Machine

/-- The frame buffer's free draw at a RESET event: `N` bytes (R40; assumption 5). -/
def drawnBuffer (n draw : Nat) : Memory := Memory.ofBytes (Config.freeByte draw) n

/-- `last_poll_time`'s free draw at a RESET event: a `P_TIME_W`-bit value (R40; assumption 5). -/
def drawnTime (timeW draw : Nat) : Ticks := (Config.freeTime timeW draw).toNat

/-- A reset (R230): every element takes the value of R40, of which `buf` and `last_poll_time` are unspecified and drawn anew. The
collaborator's connection is dropped and its undelivered symbols are discarded (R231); nothing is emitted. -/
def State.resetEvent (s : State) : State :=
  { s with
    phase := .idle
    cnt := 0
    buf := drawnBuffer s.cfg.n s.draws
    resyncCnt := 0
    lastPollTime := drawnTime s.cfg.timeW s.draws
    lastPollValid := false
    snapValid := false
    snap := Reading.zero
    aux := AuxReading.zero
    inputs := withoutCollaborator s.inputs
    conn := .closed
    draws := s.draws + 1 }

/-- RESET (R230), accepted in every phase. -/
def execReset (s : State) : Host.Outcome State Fault Refusal := .next s.resetEvent

end Sys2Proof.Machine
end

