-- ==== Sys2Proof/Machine/Synchronizer.lean ====
section
/-! DEFINITION. The Stream Synchronizer and the stream's end symbols (spec/40_synchronizer.md R101 to R109). -/

namespace Sys2Proof.Machine

/-- BYTE in HUNT (R101). -/
def execByteHunt (b : Byte) (s : State) : Host.Outcome State Fault Refusal :=
  if s.phase = .hunt then
    if b = startMarker1 then .next (s.enterPhase .seen) else .next (s.enterPhase .hunt)
  else .refused .eventNotAccepted

/-- BYTE in SEEN (R102). -/
def execByteSeen (b : Byte) (s : State) : Host.Outcome State Fault Refusal :=
  if s.phase = .seen then
    if b = startMarker2 then .next (s.enterPhase .fill).clearCnt
    else if s.cfg.syncReexamine && decide (b = startMarker1) then .next (s.enterPhase .seen)
    else .next (s.enterPhase .hunt)
  else .refused .eventNotAccepted

/-- A stream symbol that ends the cycle, wherever the stream port is ready (R100, R103 to R105). -/
def streamError (e : CycleError) (s : State) : Host.Outcome State Fault Refusal :=
  if Port.ready s.phase .stream then .next (s.raiseError e) else .refused .eventNotAccepted

/-- EOF (R103): StreamInterrupted. The data bits are ignored (R79). -/
def execEof (_data : Byte) (s : State) : Host.Outcome State Fault Refusal := streamError .streamInterrupted s

/-- TIMEOUT (R104): ReadTimeout. The data bits are ignored (R79). -/
def execTimeout (_data : Byte) (s : State) : Host.Outcome State Fault Refusal := streamError .readTimeout s

/-- The reserved stream kind (R105): CollaboratorError. The data bits are ignored (R79). -/
def execReservedSym (_data : Byte) (s : State) : Host.Outcome State Fault Refusal := streamError .collaboratorError s

end Sys2Proof.Machine
end

