-- ==== Sys2Proof/Machine/Dispatch.lean ====
section
/-! DEFINITION. The meaning of every instruction, one arm per row of spec/opcode_table.json. -/

namespace Sys2Proof.Machine

def exec (i : Instr) (s : State) : Host.Outcome State Fault Refusal :=
  match i with
  | .reserved0 operand => Sys2Proof.Machine.execReserved0 operand s
  | .update now => Sys2Proof.Machine.execUpdate now s
  | .rdTemp operand => Sys2Proof.Machine.execRdTemp operand s
  | .rdState operand => Sys2Proof.Machine.execRdState operand s
  | .rdValveTarget operand => Sys2Proof.Machine.execRdValveTarget operand s
  | .rdValveActual operand => Sys2Proof.Machine.execRdValveActual operand s
  | .rdValveTargetAttr operand => Sys2Proof.Machine.execRdValveTargetAttr operand s
  | .rdBufferLower operand => Sys2Proof.Machine.execRdBufferLower operand s
  | .rdBufferUpper operand => Sys2Proof.Machine.execRdBufferUpper operand s
  | .rdFlow operand => Sys2Proof.Machine.execRdFlow operand s
  | .rdChimney operand => Sys2Proof.Machine.execRdChimney operand s
  | .rdFan operand => Sys2Proof.Machine.execRdFan operand s
  | .reservedCToF opLow operand => Sys2Proof.Machine.execReservedCToF opLow operand s
  | .byteHunt data => Sys2Proof.Machine.execByteHunt data s
  | .byteSeen data => Sys2Proof.Machine.execByteSeen data s
  | .byteFill data => Sys2Proof.Machine.execByteFill data s
  | .eof data => Sys2Proof.Machine.execEof data s
  | .timeout data => Sys2Proof.Machine.execTimeout data s
  | .reservedSym data => Sys2Proof.Machine.execReservedSym data s
  | .connOk => Sys2Proof.Machine.execConnOk s
  | .connFail => Sys2Proof.Machine.execConnFail s
  | .connReserved00 => Sys2Proof.Machine.execConnReserved00 s
  | .connReserved11 => Sys2Proof.Machine.execConnReserved11 s
  | .reset => Sys2Proof.Machine.execReset s
  | .reqOpen => Sys2Proof.Machine.execReqOpen s
  | .reqClose => Sys2Proof.Machine.execReqClose s

end Sys2Proof.Machine
end

