-- ==== Sys2Proof/Machine/Step.lean ====
section
/-! DEFINITION. One step: one input event consumed from a ready port (spec/00_scope.md R11, spec/40_synchronizer.md R100). -/

namespace Sys2Proof.Machine

/-- One step (R11): the first transfer on offer whose port is ready leaves its port, the last step's outputs are gone, and the
instruction it decodes to runs. No ready port offers an event: no step (R71, R216). -/
def step (s : State) : Host.Outcome State Fault Refusal :=
  match takeReady s.phase s.inputs with
  | none => .refused .noEvent
  | some (t, rest) =>
    match decode s.cfg.timeW s.phase t with
    | .ok i => exec i (s.consume rest)
    | .error r => .refused (.rejected r)

/-- `s` with a table word as the very next event (assumption 8). -/
def State.withFetchWord (s : State) (nbits w : Nat) : State := s.placeWord nbits w

end Sys2Proof.Machine
end

