-- ==== Sys2Proof/Safety.lean ====
section
/-! DEFINITION. The terms of the statements: the invariants of spec/10_state.md R41, the gate's test as arithmetic (R160), the
state that no output can depend on (R39, R40), and a run over stream bytes (R57, R109). -/

namespace Sys2Proof.Machine

/-- What holds in every state reached from reset (R41), with the widths and the reset values that R22 to R34, R40 and R88 give. -/
structure State.Inv (s : State) : Prop where
  /-- R41 (1). -/
  fillCount : s.phase = .fill → s.cnt.toNat < s.cfg.n
  /-- R41 (2). -/
  countOutside : s.phase ≠ .fill → s.cnt = 0
  /-- R41 (3): no commit since reset, so the snapshot registers are as reset left them (R40). -/
  noCommit : s.snapValid = false → s.snap = Reading.zero ∧ s.aux = AuxReading.zero
  /-- R41 (4). -/
  busyPolled : s.phase ≠ .idle → s.lastPollValid = true
  /-- R41 (5): the one connection is the one of the cycle in progress (R86, R213). -/
  oneConnection : s.conn = connectionIn s.phase
  /-- R41 (6). -/
  temperatureBound : s.cfg.variant = .b → s.snap.temperature.toNat ≤ 510
  /-- The frame buffer's `N` bytes, in canonical form (R23). -/
  bufferForm : s.buf.wf s.cfg.n = true
  /-- `last_poll_time` is `P_TIME_W` bits (R25). -/
  timeWidth : s.lastPollTime < 2 ^ s.cfg.timeW
  /-- A cycle resynchronizes at most `P_MAX_RESYNC` times (R24, R125). -/
  resyncWithinCap : ∀ cap, s.cfg.maxResync = some cap → s.resyncCnt ≤ cap
  /-- `snap_state` is the state code of `snap_status_raw` (R31, R32, R88); so it is never 6 (R89). -/
  stateOfRaw : s.snap.state = (stateMap s.snap.statusRaw).code
  /-- Variant A writes none of the five Variant B registers (R34). -/
  auxAbsent : s.cfg.variant = .a → s.aux = AuxReading.zero

/-- R160's condition for a skip, as exact arithmetic on the integers: a poll has passed and
`(now - last_poll_time) mod 2^P_TIME_W` is below 10 s (Variant A) or 30 s (Variant B) of ticks. -/
def State.pollTooSoon (now : Ticks) (s : State) : Prop :=
  s.lastPollValid = true ∧
    ((now : Int) - s.lastPollTime) % 2 ^ s.cfg.timeW < (if s.cfg.variant = .a then 10 else 30) * (s.cfg.ticksPerS : Int)

/-- Two states that differ at most in what R39 and R40 say cannot be observed: `last_poll_time` while `last_poll_valid` is 0,
and the buffer's bytes that the frame being filled has not reached. -/
structure State.HostEquiv (s t : State) : Prop where
  cfg : s.cfg = t.cfg
  phase : s.phase = t.phase
  cnt : s.cnt = t.cnt
  resyncCnt : s.resyncCnt = t.resyncCnt
  lastPollValid : s.lastPollValid = t.lastPollValid
  lastPollTime : s.lastPollValid = true → s.lastPollTime = t.lastPollTime
  buf : s.phase = .fill → ∀ i, i < s.cnt.toNat → s.buf.read i = t.buf.read i
  snapValid : s.snapValid = t.snapValid
  snap : s.snap = t.snap
  aux : s.aux = t.aux
  inputs : s.inputs = t.inputs
  out : s.out = t.out
  conn : s.conn = t.conn
  draws : s.draws = t.draws

/-- The instruction of a BYTE symbol in the state's phase, run (R79, R100). -/
def feedByte (b : Byte) (s : State) : Host.Outcome State Fault Refusal :=
  match decode s.cfg.timeW s.phase (.stream (0#2 ++ b)) with
  | .ok i => exec i s
  | .error r => .refused (.rejected r)

/-- A sequence of BYTE symbols run one after another, as a read of any chunk size delivers them (R57, R80). -/
def feed : List Byte → State → Host.Outcome State Fault Refusal
  | [], s => .next s
  | b :: bs, s =>
    match feedByte b s with
    | .next t => feed bs t
    | .fault r => .fault r
    | .refused r => .refused r

/-- The output is a host response. -/
def Output.isResponse : Output → Bool
  | .response _ => true
  | .request _ => false

end Sys2Proof.Machine
end

