-- ==== Sys2Proof/Certificates/Slice0/Obligations.lean ====
section
/-! DEFINITION. The statements for the provers, from the numbered rules of spec/. Each docstring names the rules. -/

open Sys2Proof Sys2Proof.Machine

/-! ### Encoding -/

/-- R73, R79, R86, R100: decoding what a well-formed instruction encodes to gives it back, in every phase of its row. -/
def Obligations.DecodeOfEncode : Prop :=
  ∀ (w : Nat) (p : Phase) (i : Instr), i.wellFormed w = true → i.inPhase p = true → decode w p (encode w i) = .ok i

/-- R73, R79, R86, R100: whatever the decoder reads from a transfer of its port's width encodes to that transfer, is
well-formed, and is of a row of the phase. -/
def Obligations.EncodeOfDecode : Prop :=
  ∀ (w : Nat) (p : Phase) (t : Transfer) (i : Instr), t.fits w = true → decode w p t = .ok i →
    encode w i = t ∧ i.wellFormed w = true ∧ i.inPhase p = true

/-- R73, R79, R86: words written out from the encoding tables decode to the rows they stand for. -/
def Obligations.SampleWordsDecode : Prop :=
  decode 64 .idle (.command 0x100000000000003E8) = .ok (.update 1000) ∧
  decode 64 .fill (.command 0xB0000000000000000) = .ok (.rdFan 0) ∧
  decode 8 .idle (.command 0xC04) = .ok (.reservedCToF 0 4) ∧
  decode 64 .hunt (.stream 0x00E) = .ok (.byteHunt 0x0E) ∧
  decode 64 .seen (.stream 0x0FF) = .ok (.byteSeen 0xFF) ∧
  decode 64 .fill (.stream 0x050) = .ok (.byteFill 0x50) ∧
  decode 64 .seen (.stream 0x100) = .ok (.eof 0) ∧
  decode 64 .hunt (.stream 0x200) = .ok (.timeout 0) ∧
  decode 64 .fill (.stream 0x300) = .ok (.reservedSym 0) ∧
  decode 64 .connect (.connResponse 0b01) = .ok .connOk ∧
  decode 64 .connect (.connResponse 0b10) = .ok .connFail ∧
  decode 64 .idle (.connRequest 0b01) = .ok .reqOpen

/-! ### Steps and ports -/

/-- R11, R100: a step consumes one event of a ready port, and the instruction it decodes to runs. The spec leaves to the
environment which port's event comes next. That the offers are one ordered list of which the FIRST at a ready port is taken,
and that the outputs of the step before stand in State until then, is the model's choice (assumption 6). -/
def Obligations.StepRunsDecodedInstr : Prop :=
  ∀ (s : State) (pre post : List Transfer) (t : Transfer) (i : Instr),
    s.inputs = pre ++ t :: post → (∀ u ∈ pre, Port.ready s.phase u.port = false) → Port.ready s.phase t.port = true →
    decode s.cfg.timeW s.phase t = .ok i →
    step s = exec i { s with inputs := pre ++ post, out := [] }

/-- R71: the table of ready ports; no step where no ready port has an offer; and a step consumes one transfer of a ready port
and leaves every other on offer. That it is the first of an ordered list is the model's choice, and that a step which resets the
collaborator or closes its connection leaves its two ports without an offer, and the host's offers as they are, is the model's
inference from R213 and R231 (assumption 6). -/
def Obligations.PortReadinessGovernsSteps : Prop :=
  (∀ p : Phase, Port.ready p .hostCommand = true ∧ Port.ready p .reset = true ∧
    (Port.ready p .stream = true ↔ p = .hunt ∨ p = .seen ∨ p = .fill) ∧
    (Port.ready p .connResponse = true ↔ p = .connect)) ∧
  (∀ s : State, (∀ t ∈ s.inputs, Port.ready s.phase t.port = false) → step s = .refused .noEvent) ∧
  (∀ s s' : State, step s = .next s' → ∃ pre t post, s.inputs = pre ++ t :: post ∧
    (∀ u ∈ pre, Port.ready s.phase u.port = false) ∧ Port.ready s.phase t.port = true ∧
    (¬ (t = .reset ∨ .request .closeConn ∈ s'.out) → s'.inputs = pre ++ post) ∧
    ((t = .reset ∨ .request .closeConn ∈ s'.out) → ∀ u, u ∈ s'.inputs ↔
      u ∈ pre ++ post ∧ u.port ≠ .stream ∧ u.port ≠ .connResponse))

/-- R100: an event that a ready port offers is always stepped, in a state whose fill count is within the buffer. -/
def Obligations.ReadyEventsAreStepped : Prop :=
  ∀ s : State, (s.phase = .fill → s.cnt.toNat < s.cfg.n) → (∃ t ∈ s.inputs, Port.ready s.phase t.port = true) →
    ∃ s', step s = .next s'

/-- R100, R52: every instruction completes in every phase of its row, for every operand. For the two output rows, REQ_OPEN and
REQ_CLOSE, that they run at all, as the emissions they are, is the model's inference from R86 (assumption 7). -/
def Obligations.EveryInstrCompletesInItsPhases : Prop :=
  ∀ (i : Instr) (s : State), i.inPhase s.phase = true → (s.phase = .fill → s.cnt.toNat < s.cfg.n) → ∃ t, exec i s = .next t

/-- R71, R100: "No other (event, phase) pair is accepted": outside the phases of its row an instruction takes no step. -/
def Obligations.EventsOutsideTheirPhaseTakeNoStep : Prop :=
  ∀ (i : Instr) (s : State), i.inPhase s.phase = false → exec i s = .refused .eventNotAccepted

/-- R52, R41 (1): "An index outside `0 .. N-1` is never formed". No step faults in a state that meets R41 (1), and the buffer's
largest fixed read offset is below `N`. An instruction faults exactly where it would form such an index: BYTE_FILL in FILL with a
count of `N` or more. That it faults there, in states no run reaches, is the model's choice (assumption 16). -/
def Obligations.FaultsExactlyOutsideTheBuffer : Prop :=
  (∀ (s : State) (f : Fault), (s.phase = .fill → s.cnt.toNat < s.cfg.n) → step s ≠ .fault f) ∧
  (∀ c : Config, (c.variant = .a → endMarkerIndex1 < c.n ∧ endMarkerIndex2 < c.n) ∧ (c.variant = .b → flagIndex < c.n)) ∧
  (∀ (i : Instr) (s : State) (f : Fault), exec i s = .fault f ↔
    f = .bufIndexOutOfRange ∧ (∃ b, i = .byteFill b) ∧ s.phase = .fill ∧ s.cfg.n ≤ s.cnt.toNat)

/-- R11, R76: a step emits at most one response, and it emits no connection request but OPEN and CLOSE, each at most once. -/
def Obligations.AtMostOneResponsePerStep : Prop :=
  ∀ s s' : State, step s = .next s' →
    (s'.out.filter Output.isResponse).length ≤ 1 ∧
    s'.out.count (.request .closeConn) ≤ 1 ∧ s'.out.count (.request (.openConn s.cfg.host s.cfg.port)) ≤ 1 ∧
    (∀ h p, .request (.openConn h p) ∈ s'.out → h = s.cfg.host ∧ p = s.cfg.port)

/-! ### Host commands -/

/-- R167 to R177: each read command answers with one response and changes nothing else, in every phase, for every operand. -/
def Obligations.ReadCommandsAnswer : Prop :=
  ∀ (s : State) (x : Nat),
    let shared := fun (data : Nat) => if s.snapValid = true then Response.mk .okData (BitVec.ofNat 16 data) else ⟨.errNoData, 0⟩
    let onlyB := fun (data : Nat) => if s.cfg.variant = .a then Response.mk .errNotPresent 0 else shared data
    let answer := fun (r : Response) => (.next { s with out := s.out ++ [.response r] } : Host.Outcome State Fault Refusal)
    exec (.rdTemp x) s = answer (shared s.snap.temperature.toNat) ∧
    exec (.rdState x) s = answer (shared (256 * s.snap.state.toNat + s.snap.statusRaw.toNat)) ∧
    exec (.rdValveTarget x) s = answer (shared s.snap.valveTarget.toNat) ∧
    exec (.rdValveActual x) s = answer (shared s.snap.valveActual.toNat) ∧
    exec (.rdValveTargetAttr x) s = answer (shared s.snap.valveActual.toNat) ∧
    exec (.rdBufferLower x) s = answer (onlyB s.aux.bufferLower.toNat) ∧
    exec (.rdBufferUpper x) s = answer (onlyB s.aux.bufferUpper.toNat) ∧
    exec (.rdFlow x) s = answer (onlyB s.aux.flow.toNat) ∧
    exec (.rdChimney x) s = answer (onlyB s.aux.chimney.toNat) ∧
    exec (.rdFan x) s = answer (onlyB s.aux.fan.toNat)

/-- R75, R178: the reserved opcodes answer ERR_ILLEGAL_CMD and change nothing else; and they are the ops 0x0 and 0xC to 0xF. -/
def Obligations.ReservedOpcodesAreIllegal : Prop :=
  (∀ (s : State) (x : Nat) (l : BitVec 2),
    exec (.reserved0 x) s = .next { s with out := s.out ++ [.response ⟨.errIllegalCmd, 0⟩] } ∧
    exec (.reservedCToF l x) s = .next { s with out := s.out ++ [.response ⟨.errIllegalCmd, 0⟩] }) ∧
  (∀ (w op x : Nat) (p : Phase), op < 16 → x < 2 ^ w →
    ((op = 0 ∨ 12 ≤ op) ↔ decode w p (.command (op * 2 ^ w + x)) = .ok (.reserved0 x) ∨
      ∃ l, decode w p (.command (op * 2 ^ w + x)) = .ok (.reservedCToF l x)))

/-- R161: an UPDATE within the cooldown answers OK_SKIPPED and changes nothing else, in every phase. -/
def Obligations.UpdateWithinCooldownSkips : Prop :=
  ∀ (s : State) (now : Ticks), s.pollTooSoon now →
    exec (.update now) s = .next { s with out := s.out ++ [.response ⟨.okSkipped, 0⟩] }

/-- R162: an UPDATE that passes the gate in IDLE starts a cycle, for every `now` of `P_TIME_W` bits (R72). That the collaborator's
connection is being opened then is the model's inference from R86 and R213 (assumption 11). -/
def Obligations.UpdateInIdleStartsCycle : Prop :=
  ∀ (s : State) (now : Ticks), now < 2 ^ s.cfg.timeW → ¬ s.pollTooSoon now → s.phase = .idle →
    exec (.update now) s = .next { s with
      lastPollTime := now, lastPollValid := true, resyncCnt := 0, cnt := 0, phase := .connect, conn := .opening
      out := s.out ++ [.request (.openConn s.cfg.host s.cfg.port)] }

/-- R163: an UPDATE that passes the gate while a cycle is in progress ends it with ERR_ABORTED and starts another, for every `now`
of `P_TIME_W` bits (R72). The connection (assumption 11) and the offers that its CLOSE discards (assumption 6) are the model's
inference from R86 and R213. -/
def Obligations.UpdateInCyclePreempts : Prop :=
  ∀ (s : State) (now : Ticks), now < 2 ^ s.cfg.timeW → ¬ s.pollTooSoon now → s.phase ≠ .idle →
    exec (.update now) s = .next { s with
      lastPollTime := now, lastPollValid := true, resyncCnt := 0, cnt := 0, phase := .connect, conn := .opening
      inputs := withoutCollaborator s.inputs
      out := s.out ++ [.response ⟨.errAborted, 0⟩, .request .closeConn, .request (.openConn s.cfg.host s.cfg.port)] }

/-- R160, R181: at exactly the cooldown after `last_poll_time`, modulo `2^P_TIME_W` and so across the wrap as well, an UPDATE
passes in every phase, and one tick earlier it is skipped, where the configuration meets R7's constraint on the cooldown and
`last_poll_time` is `P_TIME_W` bits (R25). -/
def Obligations.GateBoundaryIsTheCooldown : Prop :=
  ∀ s : State, s.lastPollValid = true → s.lastPollTime < 2 ^ s.cfg.timeW → s.cfg.cooldownTicks < 2 ^ s.cfg.timeW →
    (∃ t, exec (.update ((s.lastPollTime + s.cfg.cooldownTicks) % 2 ^ s.cfg.timeW)) s = .next t ∧ t.phase = .connect ∧
      t.lastPollTime = (s.lastPollTime + s.cfg.cooldownTicks) % 2 ^ s.cfg.timeW ∧
      t.out.getLast? = some (.request (.openConn s.cfg.host s.cfg.port))) ∧
    (0 < s.cfg.cooldownTicks →
      exec (.update ((s.lastPollTime + s.cfg.cooldownTicks - 1) % 2 ^ s.cfg.timeW)) s =
        .next { s with out := s.out ++ [.response ⟨.okSkipped, 0⟩] })

/-- R233: after a RESET event, whatever was drawn for `last_poll_time`, the first UPDATE passes the gate at every `now` of
`P_TIME_W` bits. -/
def Obligations.FirstUpdateAfterResetPasses : Prop :=
  ∀ (s : State) (now : Ticks), now < 2 ^ s.cfg.timeW → ∃ t u, exec .reset s = .next t ∧ exec (.update now) t = .next u ∧
    u.phase = .connect ∧ u.lastPollTime = now ∧ u.lastPollValid = true ∧
    u.out = t.out ++ [.request (.openConn s.cfg.host s.cfg.port)]

/-- R25, R26, R179: but for RESET, an UPDATE that passes the gate writes the poll registers, its `now` and 1, and nothing else
writes them: no other instruction, whatever it completes or ends, and no UPDATE that the gate holds back. -/
def Obligations.PollTimeWrittenOnlyByGate : Prop :=
  ∀ (i : Instr) (s t : State), exec i s = .next t → i ≠ .reset →
    (∃ now, i = .update now ∧ ¬ s.pollTooSoon now ∧ t.lastPollTime = now ∧ t.lastPollValid = true) ∨
    ((∀ now, i = .update now → s.pollTooSoon now) ∧
      t.lastPollTime = s.lastPollTime ∧ t.lastPollValid = s.lastPollValid)

/-- R180, R241: however a cycle ended, but for RESET, an UPDATE that would have been too soon before its end is skipped after it. -/
def Obligations.EndedCycleKeepsItsCooldown : Prop :=
  ∀ (i : Instr) (s t : State) (now : Ticks), s.phase ≠ .idle → exec i s = .next t → t.phase = .idle → i ≠ .reset →
    s.pollTooSoon now → exec (.update now) t = .next { t with out := t.out ++ [.response ⟨.okSkipped, 0⟩] }

/-! ### The connection ports -/

/-- R164: CONN_OK in CONNECT starts the marker hunt, and nothing else of the block changes. That the collaborator's connection
is open then is the model's reading of R86 (assumption 11). -/
def Obligations.ConnOkStartsHunt : Prop :=
  ∀ s : State, s.phase = .connect → exec .connOk s = .next { s with phase := .hunt, conn := .opened }

/-- R87, R165, R166: CONN_FAIL and both reserved responses in CONNECT end the cycle with ERR_IO and no CLOSE. That no connection
exists after them is the model's inference from R205 (assumption 11). -/
def Obligations.ConnFailuresEndCycle : Prop :=
  ∀ s : State, s.phase = .connect → ∀ i ∈ [Instr.connFail, .connReserved00, .connReserved11],
    exec i s = .next { s with phase := .idle, cnt := 0, conn := .closed, out := s.out ++ [.response ⟨.errIo, 0⟩] }

/-- R86: the two requests, as the emissions they are: OPEN carries the host and the port, CLOSE makes the collaborator discard
what it has not delivered (R213). That an output row runs as an instruction is the model's inference (assumption 7), as are the
connection (assumption 11) and the offers discarded (assumption 6). -/
def Obligations.RequestsAreEmitted : Prop :=
  ∀ s : State,
    exec .reqOpen s = .next { s with conn := .opening, out := s.out ++ [.request (.openConn s.cfg.host s.cfg.port)] } ∧
    (∃ t, exec .reqClose s = .next t ∧
      t = { s with conn := .closed, inputs := t.inputs, out := s.out ++ [.request .closeConn] } ∧
      ∀ u, u ∈ t.inputs ↔ u ∈ s.inputs ∧ u.port ≠ .stream ∧ u.port ≠ .connResponse) ∧
    (∀ h p, (Request.openConn h p).code = 0b01) ∧ Request.closeConn.code = 0b10

/-! ### The synchronizer -/

/-- R101: a BYTE in HUNT. -/
def Obligations.ByteInHuntMatchesFirstMarkerByte : Prop :=
  ∀ (s : State) (b : Byte), s.phase = .hunt →
    exec (.byteHunt b) s = .next { s with phase := if b = 0x0E then .seen else .hunt }

/-- R102: a BYTE in SEEN, under both readings of a diverging 0x0E. -/
def Obligations.ByteInSeenMatchesSecondMarkerByte : Prop :=
  ∀ (s : State) (b : Byte), s.phase = .seen →
    exec (.byteSeen b) s = .next
      (if b = 0xFF then { s with phase := .fill, cnt := 0 }
       else if s.cfg.syncReexamine = true ∧ b = 0x0E then { s with phase := .seen }
       else { s with phase := .hunt })

/-- R103, R104, R105, R205: EOF, TIMEOUT and the reserved kind end the cycle wherever the stream port is ready, whatever their
data. The connection (assumption 11) and the offers that the CLOSE discards (assumption 6) are the model's inference from R86 and
R213. -/
def Obligations.StreamEndSymbolsEndCycle : Prop :=
  ∀ (s : State) (d : Byte), s.phase = .hunt ∨ s.phase = .seen ∨ s.phase = .fill →
    let ended := fun (c : Status) => (.next { s with
      phase := .idle, cnt := 0, conn := .closed, inputs := withoutCollaborator s.inputs
      out := s.out ++ [.response ⟨c, 0⟩, .request .closeConn] } : Host.Outcome State Fault Refusal)
    exec (.eof d) s = ended .errStreamInterrupted ∧
    exec (.timeout d) s = ended .errTimeout ∧
    exec (.reservedSym d) s = ended .errIo

/-- R205: what raising an error does, and that nothing else of the block changes. The connection (assumption 11) and the offers
that the CLOSE discards (assumption 6) are the model's inference from R86, R205 and R213. -/
def Obligations.RaiseEndsCycle : Prop :=
  ∀ (s : State) (e : CycleError),
    let code := match e with
      | .streamInterrupted => Status.errStreamInterrupted
      | .connectFailed => .errIo
      | .collaboratorError => .errIo
      | .readTimeout => .errTimeout
      | .resyncLimit => .errResyncLimit
    s.raiseError e =
      if s.phase = .connect then
        { s with phase := .idle, cnt := 0, conn := .closed, out := s.out ++ [.response ⟨code, 0⟩] }
      else
        { s with phase := .idle, cnt := 0, conn := .closed, inputs := withoutCollaborator s.inputs
                 out := s.out ++ [.response ⟨code, 0⟩, .request .closeConn] }

/-- R107, R124: where each phase of a search is entered from, over every instruction. HUNT is entered from outside the synchronizer
only by CONN_OK and by the last byte of a Variant A frame that is invalid, its end marker not 0x0D 0xFF, with the cap not reached;
SEEN only by 0x0E in HUNT, or in SEEN with `P_SYNC_REEXAMINE`; FILL only by 0xFF in SEEN. (`wf`: the buffer's canonical form, in
which a stored byte reads back.) -/
def Obligations.SynchronizerIsEnteredOnlyThere : Prop :=
  ∀ (i : Instr) (s t : State), exec i s = .next t →
    (t.phase = .hunt → s.phase ≠ .hunt → s.phase ≠ .seen →
      (i = .connOk ∧ s.phase = .connect) ∨
      (∃ b, i = .byteFill b ∧ s.phase = .fill ∧ s.cfg.variant = .a ∧ s.cnt.toNat = 15 ∧
        (s.buf.wf 16 = true → ¬ (s.buf.read 14 = 0x0D ∧ b = 0xFF)) ∧ s.cfg.maxResync ≠ some s.resyncCnt)) ∧
    (t.phase = .seen → s.phase ≠ .seen → i = .byteHunt 0x0E ∧ s.phase = .hunt) ∧
    (t.phase = .seen → ∀ b, i = .byteSeen b → b = 0x0E ∧ s.cfg.syncReexamine = true) ∧
    (t.phase = .fill → s.phase ≠ .fill → i = .byteSeen 0xFF ∧ s.phase = .seen ∧ t.cnt = 0)

/-- R109: noise that does not reach FILL has no effect on what follows a marker, where `P_SYNC_REEXAMINE` is 1 or the noise does
not end in 0x0E; under the default the phase after such noise is HUNT; and under the default a marker that follows noise ending
in SEEN is missed. -/
def Obligations.NoiseBeforeMarkerHasNoEffect : Prop :=
  ∀ (s : State) (noise : List Byte), s.phase = .hunt →
    (∀ pre post t, noise = pre ++ post → feed pre s = .next t → t.phase ≠ .fill) →
    (∀ frame : List Byte, s.cfg.syncReexamine = true ∨ noise.getLast? ≠ some 0x0E →
      feed (noise ++ 0x0E :: 0xFF :: frame) s = feed (0x0E :: 0xFF :: frame) s) ∧
    (noise.getLast? ≠ some 0x0E → feed noise s = .next s) ∧
    (∀ t, s.cfg.syncReexamine = false → feed noise s = .next t → t.phase = .seen →
      feed (noise ++ [0x0E, 0xFF]) s = .next s)

/-! ### The frame reader and the validator -/

/-- R120 with the frame not yet full: the byte is stored at `cnt`, `cnt` rises by one, and every other byte of the buffer and
the rest of the state stay (R53). -/
def Obligations.FillStoresOneByte : Prop :=
  ∀ (s : State) (b : Byte), s.phase = .fill → s.cnt.toNat + 1 < s.cfg.n → s.buf.wf s.cfg.n = true →
    ∃ t, exec (.byteFill b) s = .next t ∧ t = { s with buf := t.buf, cnt := t.cnt } ∧
      t.cnt.toNat = s.cnt.toNat + 1 ∧ t.buf.wf s.cfg.n = true ∧
      t.buf.read s.cnt.toNat = b ∧ ∀ j, j ≠ s.cnt.toNat → t.buf.read j = s.buf.read j

/-- R122, R141, R142 with R120, R150, R151: the 16th byte of a Variant A frame whose end marker is 0x0D 0xFF commits it and
completes the cycle. The connection (assumption 11) and the
offers that the CLOSE discards (assumption 6) are the model's inference from R86 and R213. -/
def Obligations.ValidFrameACommits : Prop :=
  ∀ s : State, s.cfg.variant = .a → s.phase = .fill → s.cnt = 15 → s.buf.wf 16 = true → s.buf.read 14 = 0x0D →
    ∃ t, exec (.byteFill 0xFF) s = .next t ∧
      t = { s with
        phase := .idle, cnt := 0, buf := t.buf, snapValid := true, conn := .closed
        snap :=
          { temperature := BitVec.ofNat 16 (256 * (s.buf.read 0).toNat + (s.buf.read 1).toNat)
            valveActual := s.buf.read 2
            valveTarget := s.buf.read 3
            statusRaw := s.buf.read 4
            state := (stateMap (s.buf.read 4)).code }
        inputs := withoutCollaborator s.inputs
        out := s.out ++ [.response ⟨.okUpdated, 0⟩, .request .closeConn] } ∧
      t.buf.read 15 = 0xFF ∧ ∀ j, j ≠ 15 → t.buf.read j = s.buf.read j

/-- R124, R125: the 16th byte of a Variant A frame with any other end marker: a new hunt on the same connection, counted where
`P_MAX_RESYNC` is finite; with the cap reached, ERR_RESYNC_LIMIT. The snapshot stays. With the cap reached, the connection
(assumption 11) and the offers that the CLOSE discards (assumption 6) are the model's inference from R86 and R213. -/
def Obligations.InvalidFrameAResynchronizes : Prop :=
  ∀ (s : State) (b : Byte), s.cfg.variant = .a → s.phase = .fill → s.cnt = 15 → s.buf.wf 16 = true →
    ¬ (s.buf.read 14 = 0x0D ∧ b = 0xFF) →
    ∃ t, exec (.byteFill b) s = .next t ∧
      (s.cfg.maxResync = none → t = { s with phase := .hunt, cnt := 0, buf := t.buf }) ∧
      (∀ cap, s.cfg.maxResync = some cap → s.resyncCnt ≠ cap →
        t = { s with phase := .hunt, cnt := 0, buf := t.buf, resyncCnt := s.resyncCnt + 1 }) ∧
      (∀ cap, s.cfg.maxResync = some cap → s.resyncCnt = cap →
        t = { s with
          phase := .idle, cnt := 0, buf := t.buf, conn := .closed, inputs := withoutCollaborator s.inputs
          out := s.out ++ [.response ⟨.errResyncLimit, 0⟩, .request .closeConn] }) ∧
      t.buf.read 15 = b ∧ ∀ j, j ≠ 15 → t.buf.read j = s.buf.read j

/-- R123, R143, R144 with R120, R150, R151: the 54th byte of a Variant B frame commits it and completes the cycle, whatever it is.
The connection (assumption 11) and the offers that the CLOSE discards (assumption 6)
are the model's inference from R86 and R213. -/
def Obligations.EveryFrameBCommits : Prop :=
  ∀ (s : State) (b : Byte), s.cfg.variant = .b → s.phase = .fill → s.cnt = 53 → s.buf.wf 54 = true →
    ∃ t, exec (.byteFill b) s = .next t ∧
      t = { s with
        phase := .idle, cnt := 0, buf := t.buf, snapValid := true, conn := .closed
        snap :=
          { temperature := BitVec.ofNat 16 ((s.buf.read 1).toNat + if b = 0 then 0 else 255)
            valveTarget := s.buf.read 2
            valveActual := s.buf.read 3
            statusRaw := s.buf.read 4
            state := (stateMap (s.buf.read 4)).code }
        aux :=
          { bufferLower := s.buf.read 34, bufferUpper := s.buf.read 36, flow := s.buf.read 37
            chimney := s.buf.read 47, fan := s.buf.read 50 }
        inputs := withoutCollaborator s.inputs
        out := s.out ++ [.response ⟨.okUpdated, 0⟩, .request .closeConn] } ∧
      t.buf.read 53 = b ∧ ∀ j, j ≠ 53 → t.buf.read j = s.buf.read j

/-- R88, R89, R145: the state code of every status byte. -/
def Obligations.StatusByteHasItsStateCode : Prop :=
  ∀ b : Byte, (stateMap b).code =
    (if b.toNat = 0 then 0 else if b.toNat = 2 then 1 else if b.toNat = 3 ∨ b.toNat = 4 then 2
     else if b.toNat = 7 ∨ b.toNat = 8 then 3 else if b.toNat = 97 then 4 else if b.toNat = 98 then 5 else 7)

/-- R21, R76, R77: the response status codes, the bits of a response, and the values of `phase`. -/
def Obligations.ResponseAndPhaseCodes : Prop :=
  [Status.okData, .okSkipped, .okUpdated, .errStreamInterrupted, .errIo, .errTimeout, .errResyncLimit, .errAborted,
    .errNoData, .errNotPresent, .errIllegalCmd].map Status.code = [0x0, 0x1, 0x2, 0x3, 0x4, 0x5, 0x6, 0x7, 0x8, 0x9, 0xA] ∧
  (∀ r : Response, r.word.toNat = 65536 * r.status.code.toNat + r.data.toNat) ∧
  [Phase.idle, .connect, .hunt, .seen, .fill].map phaseCode = [0, 1, 2, 3, 4]

/-- R53, R57, R82, R94, R141, R142, R150, from the marker to the commit: 18 BYTE symbols of a valid Variant A frame, from HUNT,
commit exactly the fields at the offsets of R83, whatever the buffer held, and complete the cycle. The connection (assumption 11)
and the offers that the CLOSE discards (assumption 6) are the model's inference from R86 and R213. -/
def Obligations.StreamedFrameADecodes : Prop :=
  ∀ (s : State) (f : List Byte), s.cfg.variant = .a → s.phase = .hunt → s.buf.wf 16 = true → f.length = 16 →
    f.getD 14 0 = 0x0D → f.getD 15 0 = 0xFF →
    ∃ t, feed (0x0E :: 0xFF :: f) s = .next t ∧
      t = { s with
        phase := .idle, cnt := 0, buf := t.buf, snapValid := true, conn := .closed
        snap :=
          { temperature := BitVec.ofNat 16 (256 * (f.getD 0 0).toNat + (f.getD 1 0).toNat)
            valveActual := f.getD 2 0
            valveTarget := f.getD 3 0
            statusRaw := f.getD 4 0
            state := (stateMap (f.getD 4 0)).code }
        inputs := withoutCollaborator s.inputs
        out := s.out ++ [.response ⟨.okUpdated, 0⟩, .request .closeConn] } ∧
      ∀ j, j < 16 → t.buf.read j = f.getD j 0

/-- R124, R125, R126, R127: 18 BYTE symbols of a Variant A frame with another end marker, from HUNT, whatever the frame holds, lead
back to HUNT with no output and nothing changed but the buffer and, where `P_MAX_RESYNC` is finite, the count of
resynchronizations; with the cap reached they end the cycle. There the connection (assumption 11) and the offers that the CLOSE
discards (assumption 6) are the model's inference from R86 and R213. -/
def Obligations.StreamedInvalidFrameAIsDiscarded : Prop :=
  ∀ (s : State) (f : List Byte), s.cfg.variant = .a → s.phase = .hunt → s.cnt = 0 →
    s.buf.wf 16 = true → f.length = 16 → ¬ (f.getD 14 0 = 0x0D ∧ f.getD 15 0 = 0xFF) →
    ∃ t, feed (0x0E :: 0xFF :: f) s = .next t ∧
      (s.cfg.maxResync = none → t = { s with buf := t.buf }) ∧
      (∀ cap, s.cfg.maxResync = some cap → s.resyncCnt ≠ cap →
        t = { s with buf := t.buf, resyncCnt := s.resyncCnt + 1 }) ∧
      (∀ cap, s.cfg.maxResync = some cap → s.resyncCnt = cap →
        t = { s with
          phase := .idle, buf := t.buf, conn := .closed, inputs := withoutCollaborator s.inputs
          out := s.out ++ [.response ⟨.errResyncLimit, 0⟩, .request .closeConn] })

/-- R53, R57, R82, R94, R143, R144, R150, from the marker to the commit: 56 BYTE symbols that begin with the marker, from HUNT in
Variant B, commit exactly the fields at the offsets of R84, whatever they hold and whatever the buffer held. The connection
(assumption 11) and the offers that the CLOSE discards (assumption 6) are the model's inference from R86 and R213. -/
def Obligations.StreamedFrameBDecodes : Prop :=
  ∀ (s : State) (f : List Byte), s.cfg.variant = .b → s.phase = .hunt → s.buf.wf 54 = true → f.length = 54 →
    ∃ t, feed (0x0E :: 0xFF :: f) s = .next t ∧
      t = { s with
        phase := .idle, cnt := 0, buf := t.buf, snapValid := true, conn := .closed
        snap :=
          { temperature := BitVec.ofNat 16 ((f.getD 1 0).toNat + if f.getD 53 0 = 0 then 0 else 255)
            valveTarget := f.getD 2 0
            valveActual := f.getD 3 0
            statusRaw := f.getD 4 0
            state := (stateMap (f.getD 4 0)).code }
        aux :=
          { bufferLower := f.getD 34 0, bufferUpper := f.getD 36 0, flow := f.getD 37 0
            chimney := f.getD 47 0, fan := f.getD 50 0 }
        inputs := withoutCollaborator s.inputs
        out := s.out ++ [.response ⟨.okUpdated, 0⟩, .request .closeConn] } ∧
      ∀ j, j < 54 → t.buf.read j = f.getD j 0

/-! ### The snapshot -/

/-- R42: but for RESET, only the commit of a completed frame writes the snapshot, whatever the instruction. -/
def Obligations.SnapshotWrittenOnlyByCommit : Prop :=
  ∀ (i : Instr) (s t : State), exec i s = .next t → i ≠ .reset →
    (t.snap = s.snap ∧ t.aux = s.aux ∧ t.snapValid = s.snapValid) ∨
    (∃ b, i = .byteFill b ∧ s.phase = .fill ∧ s.cnt.toNat + 1 = s.cfg.n ∧ t.phase = .idle ∧ t.snapValid = true ∧
      t.out = s.out ++ [.response ⟨.okUpdated, 0⟩, .request .closeConn])

/-- R65, R150, R151, R206: a step that emits OK_UPDATED ran BYTE_FILL with the last byte `b` of a frame that its variant takes as
valid, and in that same step every snapshot register the variant has holds what R141 to R144 decode from the completed frame `F`,
snap_valid is 1 and the cycle is over; a step that emits any other response leaves the snapshot as it was. (`wf`: the buffer's
canonical form, in which a stored byte reads back.) That no connection is left is the model's inference from R86 and R213
(assumption 11). -/
def Obligations.OnlyOkUpdatedComesWithCommit : Prop :=
  ∀ (s s' : State) (r : Response), step s = .next s' → .response r ∈ s'.out →
    (r.status = .okUpdated →
      ∃ (b : Byte) (c : State), .stream (0#2 ++ b) ∈ s.inputs ∧ c = { s with inputs := c.inputs, out := [] } ∧
        exec (.byteFill b) c = .next s' ∧ s.phase = .fill ∧ s.cnt.toNat + 1 = s.cfg.n ∧
        (s.buf.wf s.cfg.n = true →
         let F := fun i => if i + 1 = s.cfg.n then b else s.buf.read i
         (s.cfg.variant = .a → F 14 = 0x0D ∧ F 15 = 0xFF ∧ s'.aux = s.aux ∧ s'.snap =
          { temperature := BitVec.ofNat 16 (256 * (F 0).toNat + (F 1).toNat)
            valveActual := F 2, valveTarget := F 3, statusRaw := F 4, state := (stateMap (F 4)).code }) ∧
         (s.cfg.variant = .b → s'.snap =
          { temperature := BitVec.ofNat 16 ((F 1).toNat + if F 53 = 0 then 0 else 255)
            valveTarget := F 2, valveActual := F 3, statusRaw := F 4, state := (stateMap (F 4)).code } ∧
          s'.aux = { bufferLower := F 34, bufferUpper := F 36, flow := F 37, chimney := F 47, fan := F 50 })) ∧
        s'.phase = .idle ∧ s'.cnt = 0 ∧ s'.snapValid = true ∧ s'.conn = .closed ∧
        s'.out = [.response ⟨.okUpdated, 0⟩, .request .closeConn]) ∧
    (r.status ≠ .okUpdated → s'.snap = s.snap ∧ s'.aux = s.aux ∧ s'.snapValid = s.snapValid)

/-! ### Reset and invariants -/

/-- R40, R230, R231: a RESET event in any state. `buf` and `last_poll_time` are unspecified after it: nothing is said of them but
that they are a buffer of `N` bytes and a value of `P_TIME_W` bits. The counter of free draws is the model's own (assumption 5).
That the connection responses on offer go with the stream symbols, and the host's commands and reset pulses stay, is the model's
inference from R231 (assumption 6), which also has the connection dropped (assumption 11). -/
def Obligations.ResetEventClearsTheBlock : Prop :=
  ∀ s : State, ∃ t, exec .reset s = .next t ∧
    t = { cfg := s.cfg, phase := .idle, cnt := 0, buf := t.buf, resyncCnt := 0, lastPollTime := t.lastPollTime
          lastPollValid := false, snapValid := false
          snap := { temperature := 0, valveTarget := 0, valveActual := 0, statusRaw := 0, state := 0 }
          aux := { bufferLower := 0, bufferUpper := 0, flow := 0, chimney := 0, fan := 0 }
          inputs := t.inputs, out := s.out, conn := .closed, draws := s.draws + 1 } ∧
    t.buf.wf s.cfg.n = true ∧ t.lastPollTime < 2 ^ s.cfg.timeW ∧
    ∀ u, u ∈ t.inputs ↔ u ∈ s.inputs ∧ u.port ≠ .stream ∧ u.port ≠ .connResponse

/-- R40: the values of the state after reset that the spec gives, under every configuration; `core`'s reset is one of them. That
nothing is emitted is R230's sentence, and that there is no connection is R231's; the fields that hold them are assumptions 6 and
11. -/
def Obligations.ResetStateHasSpecValues : Prop :=
  (∀ c : Config, let s := State.resetWith c
    s.cfg = c ∧ s.phase = .idle ∧ s.cnt = 0 ∧ s.resyncCnt = 0 ∧ s.lastPollValid = false ∧ s.snapValid = false ∧
    s.snap = { temperature := 0, valveTarget := 0, valveActual := 0, statusRaw := 0, state := 0 } ∧
    s.aux = { bufferLower := 0, bufferUpper := 0, flow := 0, chimney := 0, fan := 0 } ∧
    s.out = [] ∧ s.conn = .closed) ∧
  ∃ c, Sys2Proof.core.reset = State.resetWith c

/-- R41: the invariants hold after reset, under every configuration. -/
def Obligations.ResetStateMeetsInv : Prop := ∀ c : Config, (State.resetWith c).Inv

/-- R41: every step keeps the invariants, from every state that meets them. -/
def Obligations.StepKeepsInv : Prop := ∀ s s' : State, s.Inv → Sys2Proof.Machine.step s = .next s' → s'.Inv

/-- R7, R36: no instruction changes the configuration. -/
def Obligations.ConfigurationNeverChanges : Prop :=
  ∀ (i : Instr) (s t : State), exec i s = .next t → t.cfg = s.cfg

/-- R34: in Variant A no instruction but RESET writes one of the five Variant B registers. -/
def Obligations.VariantANeverWritesAux : Prop :=
  ∀ (i : Instr) (s t : State), s.cfg.variant = .a → exec i s = .next t → i ≠ .reset → t.aux = s.aux

/-- R39, R40: no output depends on the unspecified reset contents. Two states that differ at most in `last_poll_time` while
`last_poll_valid` is 0, and in buffer bytes not yet filled, step alike: the same outputs, and states that differ at most so. -/
def Obligations.UnobservableStateHasNoEffect : Prop :=
  ∀ s t s' : State, s.Inv → t.Inv → s.HostEquiv t → step s = .next s' → ∃ t', step t = .next t' ∧ s'.HostEquiv t'

/-- The model's own interface (assumption 8): the instruction that the host's table word decodes to is the one the very next
step runs. -/
def Obligations.TableWordRunsNext : Prop :=
  ∀ (nbits w : Nat) (i : Instr), decodeTableWord nbits w = some i →
    ∃ s, step (State.reset.withFetchWord nbits w) = exec i s ∧ i.inPhase s.phase = true ∧ s.inputs = [] ∧ s.out = [] ∧
      s = { State.reset with phase := s.phase, conn := s.conn }
end

