-- ==== Sys2Proof/Laws/State.lean ====
section
/-! SUPPORT. What each named update leaves in each field of State: one lemma per field per update. -/

namespace Sys2Proof.Machine

variable (s : State)

/-! ### State.consume -/

@[simp] theorem State.consume_cfg (rest : List Transfer) : (s.consume rest).cfg = s.cfg := rfl
@[simp] theorem State.consume_phase (rest : List Transfer) : (s.consume rest).phase = s.phase := rfl
@[simp] theorem State.consume_cnt (rest : List Transfer) : (s.consume rest).cnt = s.cnt := rfl
@[simp] theorem State.consume_buf (rest : List Transfer) : (s.consume rest).buf = s.buf := rfl
@[simp] theorem State.consume_resyncCnt (rest : List Transfer) : (s.consume rest).resyncCnt = s.resyncCnt := rfl
@[simp] theorem State.consume_lastPollTime (rest : List Transfer) : (s.consume rest).lastPollTime = s.lastPollTime := rfl
@[simp] theorem State.consume_lastPollValid (rest : List Transfer) : (s.consume rest).lastPollValid = s.lastPollValid := rfl
@[simp] theorem State.consume_snapValid (rest : List Transfer) : (s.consume rest).snapValid = s.snapValid := rfl
@[simp] theorem State.consume_snap (rest : List Transfer) : (s.consume rest).snap = s.snap := rfl
@[simp] theorem State.consume_aux (rest : List Transfer) : (s.consume rest).aux = s.aux := rfl
@[simp] theorem State.consume_inputs (rest : List Transfer) : (s.consume rest).inputs = rest := rfl
@[simp] theorem State.consume_out (rest : List Transfer) : (s.consume rest).out = [] := rfl
@[simp] theorem State.consume_conn (rest : List Transfer) : (s.consume rest).conn = s.conn := rfl
@[simp] theorem State.consume_draws (rest : List Transfer) : (s.consume rest).draws = s.draws := rfl

/-! ### State.offer -/

@[simp] theorem State.offer_cfg (t : Transfer) : (s.offer t).cfg = s.cfg := rfl
@[simp] theorem State.offer_phase (t : Transfer) : (s.offer t).phase = s.phase := rfl
@[simp] theorem State.offer_cnt (t : Transfer) : (s.offer t).cnt = s.cnt := rfl
@[simp] theorem State.offer_buf (t : Transfer) : (s.offer t).buf = s.buf := rfl
@[simp] theorem State.offer_resyncCnt (t : Transfer) : (s.offer t).resyncCnt = s.resyncCnt := rfl
@[simp] theorem State.offer_lastPollTime (t : Transfer) : (s.offer t).lastPollTime = s.lastPollTime := rfl
@[simp] theorem State.offer_lastPollValid (t : Transfer) : (s.offer t).lastPollValid = s.lastPollValid := rfl
@[simp] theorem State.offer_snapValid (t : Transfer) : (s.offer t).snapValid = s.snapValid := rfl
@[simp] theorem State.offer_snap (t : Transfer) : (s.offer t).snap = s.snap := rfl
@[simp] theorem State.offer_aux (t : Transfer) : (s.offer t).aux = s.aux := rfl
@[simp] theorem State.offer_inputs (t : Transfer) : (s.offer t).inputs = s.inputs ++ [t] := rfl
@[simp] theorem State.offer_out (t : Transfer) : (s.offer t).out = s.out := rfl
@[simp] theorem State.offer_conn (t : Transfer) : (s.offer t).conn = s.conn := rfl
@[simp] theorem State.offer_draws (t : Transfer) : (s.offer t).draws = s.draws := rfl

/-! ### State.emit -/

@[simp] theorem State.emit_cfg (o : Output) : (s.emit o).cfg = s.cfg := rfl
@[simp] theorem State.emit_phase (o : Output) : (s.emit o).phase = s.phase := rfl
@[simp] theorem State.emit_cnt (o : Output) : (s.emit o).cnt = s.cnt := rfl
@[simp] theorem State.emit_buf (o : Output) : (s.emit o).buf = s.buf := rfl
@[simp] theorem State.emit_resyncCnt (o : Output) : (s.emit o).resyncCnt = s.resyncCnt := rfl
@[simp] theorem State.emit_lastPollTime (o : Output) : (s.emit o).lastPollTime = s.lastPollTime := rfl
@[simp] theorem State.emit_lastPollValid (o : Output) : (s.emit o).lastPollValid = s.lastPollValid := rfl
@[simp] theorem State.emit_snapValid (o : Output) : (s.emit o).snapValid = s.snapValid := rfl
@[simp] theorem State.emit_snap (o : Output) : (s.emit o).snap = s.snap := rfl
@[simp] theorem State.emit_aux (o : Output) : (s.emit o).aux = s.aux := rfl
@[simp] theorem State.emit_inputs (o : Output) : (s.emit o).inputs = s.inputs := rfl
@[simp] theorem State.emit_out (o : Output) : (s.emit o).out = s.out ++ [o] := rfl
@[simp] theorem State.emit_conn (o : Output) : (s.emit o).conn = s.conn := rfl
@[simp] theorem State.emit_draws (o : Output) : (s.emit o).draws = s.draws := rfl

/-! ### State.respond -/

@[simp] theorem State.respond_cfg (c : Status) (d : BitVec 16) : (s.respond c d).cfg = s.cfg := rfl
@[simp] theorem State.respond_phase (c : Status) (d : BitVec 16) : (s.respond c d).phase = s.phase := rfl
@[simp] theorem State.respond_cnt (c : Status) (d : BitVec 16) : (s.respond c d).cnt = s.cnt := rfl
@[simp] theorem State.respond_buf (c : Status) (d : BitVec 16) : (s.respond c d).buf = s.buf := rfl
@[simp] theorem State.respond_resyncCnt (c : Status) (d : BitVec 16) : (s.respond c d).resyncCnt = s.resyncCnt := rfl
@[simp] theorem State.respond_lastPollTime (c : Status) (d : BitVec 16) : (s.respond c d).lastPollTime = s.lastPollTime := rfl
@[simp] theorem State.respond_lastPollValid (c : Status) (d : BitVec 16) : (s.respond c d).lastPollValid = s.lastPollValid := rfl
@[simp] theorem State.respond_snapValid (c : Status) (d : BitVec 16) : (s.respond c d).snapValid = s.snapValid := rfl
@[simp] theorem State.respond_snap (c : Status) (d : BitVec 16) : (s.respond c d).snap = s.snap := rfl
@[simp] theorem State.respond_aux (c : Status) (d : BitVec 16) : (s.respond c d).aux = s.aux := rfl
@[simp] theorem State.respond_inputs (c : Status) (d : BitVec 16) : (s.respond c d).inputs = s.inputs := rfl
@[simp] theorem State.respond_out (c : Status) (d : BitVec 16) : (s.respond c d).out = s.out ++ [.response ⟨c, d⟩] := rfl
@[simp] theorem State.respond_conn (c : Status) (d : BitVec 16) : (s.respond c d).conn = s.conn := rfl
@[simp] theorem State.respond_draws (c : Status) (d : BitVec 16) : (s.respond c d).draws = s.draws := rfl

/-! ### State.requestOpen -/

@[simp] theorem State.requestOpen_cfg : (s.requestOpen).cfg = s.cfg := rfl
@[simp] theorem State.requestOpen_phase : (s.requestOpen).phase = s.phase := rfl
@[simp] theorem State.requestOpen_cnt : (s.requestOpen).cnt = s.cnt := rfl
@[simp] theorem State.requestOpen_buf : (s.requestOpen).buf = s.buf := rfl
@[simp] theorem State.requestOpen_resyncCnt : (s.requestOpen).resyncCnt = s.resyncCnt := rfl
@[simp] theorem State.requestOpen_lastPollTime : (s.requestOpen).lastPollTime = s.lastPollTime := rfl
@[simp] theorem State.requestOpen_lastPollValid : (s.requestOpen).lastPollValid = s.lastPollValid := rfl
@[simp] theorem State.requestOpen_snapValid : (s.requestOpen).snapValid = s.snapValid := rfl
@[simp] theorem State.requestOpen_snap : (s.requestOpen).snap = s.snap := rfl
@[simp] theorem State.requestOpen_aux : (s.requestOpen).aux = s.aux := rfl
@[simp] theorem State.requestOpen_inputs : (s.requestOpen).inputs = s.inputs := rfl
@[simp] theorem State.requestOpen_out : (s.requestOpen).out = s.out ++ [.request (.openConn s.cfg.host s.cfg.port)] := rfl
@[simp] theorem State.requestOpen_conn : (s.requestOpen).conn = .opening := rfl
@[simp] theorem State.requestOpen_draws : (s.requestOpen).draws = s.draws := rfl

/-! ### State.requestClose -/

@[simp] theorem State.requestClose_cfg : (s.requestClose).cfg = s.cfg := rfl
@[simp] theorem State.requestClose_phase : (s.requestClose).phase = s.phase := rfl
@[simp] theorem State.requestClose_cnt : (s.requestClose).cnt = s.cnt := rfl
@[simp] theorem State.requestClose_buf : (s.requestClose).buf = s.buf := rfl
@[simp] theorem State.requestClose_resyncCnt : (s.requestClose).resyncCnt = s.resyncCnt := rfl
@[simp] theorem State.requestClose_lastPollTime : (s.requestClose).lastPollTime = s.lastPollTime := rfl
@[simp] theorem State.requestClose_lastPollValid : (s.requestClose).lastPollValid = s.lastPollValid := rfl
@[simp] theorem State.requestClose_snapValid : (s.requestClose).snapValid = s.snapValid := rfl
@[simp] theorem State.requestClose_snap : (s.requestClose).snap = s.snap := rfl
@[simp] theorem State.requestClose_aux : (s.requestClose).aux = s.aux := rfl
@[simp] theorem State.requestClose_inputs : (s.requestClose).inputs = withoutCollaborator s.inputs := rfl
@[simp] theorem State.requestClose_out : (s.requestClose).out = s.out ++ [.request .closeConn] := rfl
@[simp] theorem State.requestClose_conn : (s.requestClose).conn = .closed := rfl
@[simp] theorem State.requestClose_draws : (s.requestClose).draws = s.draws := rfl

/-! ### State.enterPhase -/

@[simp] theorem State.enterPhase_cfg (p : Phase) : (s.enterPhase p).cfg = s.cfg := rfl
@[simp] theorem State.enterPhase_phase (p : Phase) : (s.enterPhase p).phase = p := rfl
@[simp] theorem State.enterPhase_cnt (p : Phase) : (s.enterPhase p).cnt = s.cnt := rfl
@[simp] theorem State.enterPhase_buf (p : Phase) : (s.enterPhase p).buf = s.buf := rfl
@[simp] theorem State.enterPhase_resyncCnt (p : Phase) : (s.enterPhase p).resyncCnt = s.resyncCnt := rfl
@[simp] theorem State.enterPhase_lastPollTime (p : Phase) : (s.enterPhase p).lastPollTime = s.lastPollTime := rfl
@[simp] theorem State.enterPhase_lastPollValid (p : Phase) : (s.enterPhase p).lastPollValid = s.lastPollValid := rfl
@[simp] theorem State.enterPhase_snapValid (p : Phase) : (s.enterPhase p).snapValid = s.snapValid := rfl
@[simp] theorem State.enterPhase_snap (p : Phase) : (s.enterPhase p).snap = s.snap := rfl
@[simp] theorem State.enterPhase_aux (p : Phase) : (s.enterPhase p).aux = s.aux := rfl
@[simp] theorem State.enterPhase_inputs (p : Phase) : (s.enterPhase p).inputs = s.inputs := rfl
@[simp] theorem State.enterPhase_out (p : Phase) : (s.enterPhase p).out = s.out := rfl
@[simp] theorem State.enterPhase_conn (p : Phase) : (s.enterPhase p).conn = s.conn := rfl
@[simp] theorem State.enterPhase_draws (p : Phase) : (s.enterPhase p).draws = s.draws := rfl

/-! ### State.clearCnt -/

@[simp] theorem State.clearCnt_cfg : (s.clearCnt).cfg = s.cfg := rfl
@[simp] theorem State.clearCnt_phase : (s.clearCnt).phase = s.phase := rfl
@[simp] theorem State.clearCnt_cnt : (s.clearCnt).cnt = 0 := rfl
@[simp] theorem State.clearCnt_buf : (s.clearCnt).buf = s.buf := rfl
@[simp] theorem State.clearCnt_resyncCnt : (s.clearCnt).resyncCnt = s.resyncCnt := rfl
@[simp] theorem State.clearCnt_lastPollTime : (s.clearCnt).lastPollTime = s.lastPollTime := rfl
@[simp] theorem State.clearCnt_lastPollValid : (s.clearCnt).lastPollValid = s.lastPollValid := rfl
@[simp] theorem State.clearCnt_snapValid : (s.clearCnt).snapValid = s.snapValid := rfl
@[simp] theorem State.clearCnt_snap : (s.clearCnt).snap = s.snap := rfl
@[simp] theorem State.clearCnt_aux : (s.clearCnt).aux = s.aux := rfl
@[simp] theorem State.clearCnt_inputs : (s.clearCnt).inputs = s.inputs := rfl
@[simp] theorem State.clearCnt_out : (s.clearCnt).out = s.out := rfl
@[simp] theorem State.clearCnt_conn : (s.clearCnt).conn = s.conn := rfl
@[simp] theorem State.clearCnt_draws : (s.clearCnt).draws = s.draws := rfl

/-! ### State.toIdle -/

@[simp] theorem State.toIdle_cfg : (s.toIdle).cfg = s.cfg := rfl
@[simp] theorem State.toIdle_phase : (s.toIdle).phase = .idle := rfl
@[simp] theorem State.toIdle_cnt : (s.toIdle).cnt = 0 := rfl
@[simp] theorem State.toIdle_buf : (s.toIdle).buf = s.buf := rfl
@[simp] theorem State.toIdle_resyncCnt : (s.toIdle).resyncCnt = s.resyncCnt := rfl
@[simp] theorem State.toIdle_lastPollTime : (s.toIdle).lastPollTime = s.lastPollTime := rfl
@[simp] theorem State.toIdle_lastPollValid : (s.toIdle).lastPollValid = s.lastPollValid := rfl
@[simp] theorem State.toIdle_snapValid : (s.toIdle).snapValid = s.snapValid := rfl
@[simp] theorem State.toIdle_snap : (s.toIdle).snap = s.snap := rfl
@[simp] theorem State.toIdle_aux : (s.toIdle).aux = s.aux := rfl
@[simp] theorem State.toIdle_inputs : (s.toIdle).inputs = s.inputs := rfl
@[simp] theorem State.toIdle_out : (s.toIdle).out = s.out := rfl
@[simp] theorem State.toIdle_conn : (s.toIdle).conn = s.conn := rfl
@[simp] theorem State.toIdle_draws : (s.toIdle).draws = s.draws := rfl

/-! ### State.withConn -/

@[simp] theorem State.withConn_cfg (c : Connection) : (s.withConn c).cfg = s.cfg := rfl
@[simp] theorem State.withConn_phase (c : Connection) : (s.withConn c).phase = s.phase := rfl
@[simp] theorem State.withConn_cnt (c : Connection) : (s.withConn c).cnt = s.cnt := rfl
@[simp] theorem State.withConn_buf (c : Connection) : (s.withConn c).buf = s.buf := rfl
@[simp] theorem State.withConn_resyncCnt (c : Connection) : (s.withConn c).resyncCnt = s.resyncCnt := rfl
@[simp] theorem State.withConn_lastPollTime (c : Connection) : (s.withConn c).lastPollTime = s.lastPollTime := rfl
@[simp] theorem State.withConn_lastPollValid (c : Connection) : (s.withConn c).lastPollValid = s.lastPollValid := rfl
@[simp] theorem State.withConn_snapValid (c : Connection) : (s.withConn c).snapValid = s.snapValid := rfl
@[simp] theorem State.withConn_snap (c : Connection) : (s.withConn c).snap = s.snap := rfl
@[simp] theorem State.withConn_aux (c : Connection) : (s.withConn c).aux = s.aux := rfl
@[simp] theorem State.withConn_inputs (c : Connection) : (s.withConn c).inputs = s.inputs := rfl
@[simp] theorem State.withConn_out (c : Connection) : (s.withConn c).out = s.out := rfl
@[simp] theorem State.withConn_conn (c : Connection) : (s.withConn c).conn = c := rfl
@[simp] theorem State.withConn_draws (c : Connection) : (s.withConn c).draws = s.draws := rfl

/-! ### State.startRegs -/

@[simp] theorem State.startRegs_cfg (now : Ticks) : (s.startRegs now).cfg = s.cfg := rfl
@[simp] theorem State.startRegs_phase (now : Ticks) : (s.startRegs now).phase = .connect := rfl
@[simp] theorem State.startRegs_cnt (now : Ticks) : (s.startRegs now).cnt = 0 := rfl
@[simp] theorem State.startRegs_buf (now : Ticks) : (s.startRegs now).buf = s.buf := rfl
@[simp] theorem State.startRegs_resyncCnt (now : Ticks) : (s.startRegs now).resyncCnt = 0 := rfl
@[simp] theorem State.startRegs_lastPollTime (now : Ticks) : (s.startRegs now).lastPollTime = now := rfl
@[simp] theorem State.startRegs_lastPollValid (now : Ticks) : (s.startRegs now).lastPollValid = true := rfl
@[simp] theorem State.startRegs_snapValid (now : Ticks) : (s.startRegs now).snapValid = s.snapValid := rfl
@[simp] theorem State.startRegs_snap (now : Ticks) : (s.startRegs now).snap = s.snap := rfl
@[simp] theorem State.startRegs_aux (now : Ticks) : (s.startRegs now).aux = s.aux := rfl
@[simp] theorem State.startRegs_inputs (now : Ticks) : (s.startRegs now).inputs = s.inputs := rfl
@[simp] theorem State.startRegs_out (now : Ticks) : (s.startRegs now).out = s.out := rfl
@[simp] theorem State.startRegs_conn (now : Ticks) : (s.startRegs now).conn = s.conn := rfl
@[simp] theorem State.startRegs_draws (now : Ticks) : (s.startRegs now).draws = s.draws := rfl

/-! ### State.commitShared -/

@[simp] theorem State.commitShared_cfg (r : Reading) : (s.commitShared r).cfg = s.cfg := rfl
@[simp] theorem State.commitShared_phase (r : Reading) : (s.commitShared r).phase = s.phase := rfl
@[simp] theorem State.commitShared_cnt (r : Reading) : (s.commitShared r).cnt = s.cnt := rfl
@[simp] theorem State.commitShared_buf (r : Reading) : (s.commitShared r).buf = s.buf := rfl
@[simp] theorem State.commitShared_resyncCnt (r : Reading) : (s.commitShared r).resyncCnt = s.resyncCnt := rfl
@[simp] theorem State.commitShared_lastPollTime (r : Reading) : (s.commitShared r).lastPollTime = s.lastPollTime := rfl
@[simp] theorem State.commitShared_lastPollValid (r : Reading) : (s.commitShared r).lastPollValid = s.lastPollValid := rfl
@[simp] theorem State.commitShared_snapValid (r : Reading) : (s.commitShared r).snapValid = true := rfl
@[simp] theorem State.commitShared_snap (r : Reading) : (s.commitShared r).snap = r := rfl
@[simp] theorem State.commitShared_aux (r : Reading) : (s.commitShared r).aux = s.aux := rfl
@[simp] theorem State.commitShared_inputs (r : Reading) : (s.commitShared r).inputs = s.inputs := rfl
@[simp] theorem State.commitShared_out (r : Reading) : (s.commitShared r).out = s.out := rfl
@[simp] theorem State.commitShared_conn (r : Reading) : (s.commitShared r).conn = s.conn := rfl
@[simp] theorem State.commitShared_draws (r : Reading) : (s.commitShared r).draws = s.draws := rfl

/-! ### State.commitAux -/

@[simp] theorem State.commitAux_cfg (a : AuxReading) : (s.commitAux a).cfg = s.cfg := rfl
@[simp] theorem State.commitAux_phase (a : AuxReading) : (s.commitAux a).phase = s.phase := rfl
@[simp] theorem State.commitAux_cnt (a : AuxReading) : (s.commitAux a).cnt = s.cnt := rfl
@[simp] theorem State.commitAux_buf (a : AuxReading) : (s.commitAux a).buf = s.buf := rfl
@[simp] theorem State.commitAux_resyncCnt (a : AuxReading) : (s.commitAux a).resyncCnt = s.resyncCnt := rfl
@[simp] theorem State.commitAux_lastPollTime (a : AuxReading) : (s.commitAux a).lastPollTime = s.lastPollTime := rfl
@[simp] theorem State.commitAux_lastPollValid (a : AuxReading) : (s.commitAux a).lastPollValid = s.lastPollValid := rfl
@[simp] theorem State.commitAux_snapValid (a : AuxReading) : (s.commitAux a).snapValid = s.snapValid := rfl
@[simp] theorem State.commitAux_snap (a : AuxReading) : (s.commitAux a).snap = s.snap := rfl
@[simp] theorem State.commitAux_aux (a : AuxReading) : (s.commitAux a).aux = a := rfl
@[simp] theorem State.commitAux_inputs (a : AuxReading) : (s.commitAux a).inputs = s.inputs := rfl
@[simp] theorem State.commitAux_out (a : AuxReading) : (s.commitAux a).out = s.out := rfl
@[simp] theorem State.commitAux_conn (a : AuxReading) : (s.commitAux a).conn = s.conn := rfl
@[simp] theorem State.commitAux_draws (a : AuxReading) : (s.commitAux a).draws = s.draws := rfl

/-! ### State.storeByte -/

@[simp] theorem State.storeByte_cfg (b : Byte) : (s.storeByte b).cfg = s.cfg := rfl
@[simp] theorem State.storeByte_phase (b : Byte) : (s.storeByte b).phase = s.phase := rfl
@[simp] theorem State.storeByte_cnt (b : Byte) : (s.storeByte b).cnt = s.cnt := rfl
@[simp] theorem State.storeByte_buf (b : Byte) : (s.storeByte b).buf = s.buf.write s.cnt.toNat b := rfl
@[simp] theorem State.storeByte_resyncCnt (b : Byte) : (s.storeByte b).resyncCnt = s.resyncCnt := rfl
@[simp] theorem State.storeByte_lastPollTime (b : Byte) : (s.storeByte b).lastPollTime = s.lastPollTime := rfl
@[simp] theorem State.storeByte_lastPollValid (b : Byte) : (s.storeByte b).lastPollValid = s.lastPollValid := rfl
@[simp] theorem State.storeByte_snapValid (b : Byte) : (s.storeByte b).snapValid = s.snapValid := rfl
@[simp] theorem State.storeByte_snap (b : Byte) : (s.storeByte b).snap = s.snap := rfl
@[simp] theorem State.storeByte_aux (b : Byte) : (s.storeByte b).aux = s.aux := rfl
@[simp] theorem State.storeByte_inputs (b : Byte) : (s.storeByte b).inputs = s.inputs := rfl
@[simp] theorem State.storeByte_out (b : Byte) : (s.storeByte b).out = s.out := rfl
@[simp] theorem State.storeByte_conn (b : Byte) : (s.storeByte b).conn = s.conn := rfl
@[simp] theorem State.storeByte_draws (b : Byte) : (s.storeByte b).draws = s.draws := rfl

/-! ### State.countByte -/

@[simp] theorem State.countByte_cfg : (s.countByte).cfg = s.cfg := rfl
@[simp] theorem State.countByte_phase : (s.countByte).phase = s.phase := rfl
@[simp] theorem State.countByte_cnt : (s.countByte).cnt = s.cnt + 1 := rfl
@[simp] theorem State.countByte_buf : (s.countByte).buf = s.buf := rfl
@[simp] theorem State.countByte_resyncCnt : (s.countByte).resyncCnt = s.resyncCnt := rfl
@[simp] theorem State.countByte_lastPollTime : (s.countByte).lastPollTime = s.lastPollTime := rfl
@[simp] theorem State.countByte_lastPollValid : (s.countByte).lastPollValid = s.lastPollValid := rfl
@[simp] theorem State.countByte_snapValid : (s.countByte).snapValid = s.snapValid := rfl
@[simp] theorem State.countByte_snap : (s.countByte).snap = s.snap := rfl
@[simp] theorem State.countByte_aux : (s.countByte).aux = s.aux := rfl
@[simp] theorem State.countByte_inputs : (s.countByte).inputs = s.inputs := rfl
@[simp] theorem State.countByte_out : (s.countByte).out = s.out := rfl
@[simp] theorem State.countByte_conn : (s.countByte).conn = s.conn := rfl
@[simp] theorem State.countByte_draws : (s.countByte).draws = s.draws := rfl

/-! ### State.countResync -/

@[simp] theorem State.countResync_cfg : (s.countResync).cfg = s.cfg := rfl
@[simp] theorem State.countResync_phase : (s.countResync).phase = s.phase := rfl
@[simp] theorem State.countResync_cnt : (s.countResync).cnt = s.cnt := rfl
@[simp] theorem State.countResync_buf : (s.countResync).buf = s.buf := rfl
@[simp] theorem State.countResync_resyncCnt : (s.countResync).resyncCnt = s.resyncCnt + 1 := rfl
@[simp] theorem State.countResync_lastPollTime : (s.countResync).lastPollTime = s.lastPollTime := rfl
@[simp] theorem State.countResync_lastPollValid : (s.countResync).lastPollValid = s.lastPollValid := rfl
@[simp] theorem State.countResync_snapValid : (s.countResync).snapValid = s.snapValid := rfl
@[simp] theorem State.countResync_snap : (s.countResync).snap = s.snap := rfl
@[simp] theorem State.countResync_aux : (s.countResync).aux = s.aux := rfl
@[simp] theorem State.countResync_inputs : (s.countResync).inputs = s.inputs := rfl
@[simp] theorem State.countResync_out : (s.countResync).out = s.out := rfl
@[simp] theorem State.countResync_conn : (s.countResync).conn = s.conn := rfl
@[simp] theorem State.countResync_draws : (s.countResync).draws = s.draws := rfl

/-! ### State.resetEvent -/

@[simp] theorem State.resetEvent_cfg : (s.resetEvent).cfg = s.cfg := rfl
@[simp] theorem State.resetEvent_phase : (s.resetEvent).phase = .idle := rfl
@[simp] theorem State.resetEvent_cnt : (s.resetEvent).cnt = 0 := rfl
@[simp] theorem State.resetEvent_buf : (s.resetEvent).buf = drawnBuffer s.cfg.n s.draws := rfl
@[simp] theorem State.resetEvent_resyncCnt : (s.resetEvent).resyncCnt = 0 := rfl
@[simp] theorem State.resetEvent_lastPollTime : (s.resetEvent).lastPollTime = drawnTime s.cfg.timeW s.draws := rfl
@[simp] theorem State.resetEvent_lastPollValid : (s.resetEvent).lastPollValid = false := rfl
@[simp] theorem State.resetEvent_snapValid : (s.resetEvent).snapValid = false := rfl
@[simp] theorem State.resetEvent_snap : (s.resetEvent).snap = Reading.zero := rfl
@[simp] theorem State.resetEvent_aux : (s.resetEvent).aux = AuxReading.zero := rfl
@[simp] theorem State.resetEvent_inputs : (s.resetEvent).inputs = withoutCollaborator s.inputs := rfl
@[simp] theorem State.resetEvent_out : (s.resetEvent).out = s.out := rfl
@[simp] theorem State.resetEvent_conn : (s.resetEvent).conn = .closed := rfl
@[simp] theorem State.resetEvent_draws : (s.resetEvent).draws = s.draws + 1 := rfl

/-! ### State.resetWith -/

@[simp] theorem State.resetWith_cfg (c : Config) : (State.resetWith c).cfg = c := rfl
@[simp] theorem State.resetWith_phase (c : Config) : (State.resetWith c).phase = .idle := rfl
@[simp] theorem State.resetWith_cnt (c : Config) : (State.resetWith c).cnt = 0 := rfl
@[simp] theorem State.resetWith_buf (c : Config) : (State.resetWith c).buf = [] := rfl
@[simp] theorem State.resetWith_resyncCnt (c : Config) : (State.resetWith c).resyncCnt = 0 := rfl
@[simp] theorem State.resetWith_lastPollTime (c : Config) : (State.resetWith c).lastPollTime = 0 := rfl
@[simp] theorem State.resetWith_lastPollValid (c : Config) : (State.resetWith c).lastPollValid = false := rfl
@[simp] theorem State.resetWith_snapValid (c : Config) : (State.resetWith c).snapValid = false := rfl
@[simp] theorem State.resetWith_snap (c : Config) : (State.resetWith c).snap = Reading.zero := rfl
@[simp] theorem State.resetWith_aux (c : Config) : (State.resetWith c).aux = AuxReading.zero := rfl
@[simp] theorem State.resetWith_inputs (c : Config) : (State.resetWith c).inputs = [] := rfl
@[simp] theorem State.resetWith_out (c : Config) : (State.resetWith c).out = [] := rfl
@[simp] theorem State.resetWith_conn (c : Config) : (State.resetWith c).conn = .closed := rfl
@[simp] theorem State.resetWith_draws (c : Config) : (State.resetWith c).draws = 0 := rfl

end Sys2Proof.Machine
end

