-- ==== Sys2Proof/Laws/Composed.lean ====
section
/-! SUPPORT. What each composed operation leaves in each field of State that it always treats alike. -/

namespace Sys2Proof.Machine

variable (s : State)

/-! ### State.startCycle -/

@[simp] theorem State.startCycle_cfg (now : Ticks) : (s.startCycle now).cfg = s.cfg := rfl
@[simp] theorem State.startCycle_phase (now : Ticks) : (s.startCycle now).phase = .connect := rfl
@[simp] theorem State.startCycle_cnt (now : Ticks) : (s.startCycle now).cnt = 0 := rfl
@[simp] theorem State.startCycle_buf (now : Ticks) : (s.startCycle now).buf = s.buf := rfl
@[simp] theorem State.startCycle_resyncCnt (now : Ticks) : (s.startCycle now).resyncCnt = 0 := rfl
@[simp] theorem State.startCycle_lastPollTime (now : Ticks) : (s.startCycle now).lastPollTime = now := rfl
@[simp] theorem State.startCycle_lastPollValid (now : Ticks) : (s.startCycle now).lastPollValid = true := rfl
@[simp] theorem State.startCycle_snapValid (now : Ticks) : (s.startCycle now).snapValid = s.snapValid := rfl
@[simp] theorem State.startCycle_snap (now : Ticks) : (s.startCycle now).snap = s.snap := rfl
@[simp] theorem State.startCycle_aux (now : Ticks) : (s.startCycle now).aux = s.aux := rfl
@[simp] theorem State.startCycle_inputs (now : Ticks) : (s.startCycle now).inputs = s.inputs := rfl
@[simp] theorem State.startCycle_out (now : Ticks) : (s.startCycle now).out = s.out ++ [.request (.openConn s.cfg.host s.cfg.port)] := rfl
@[simp] theorem State.startCycle_conn (now : Ticks) : (s.startCycle now).conn = .opening := rfl
@[simp] theorem State.startCycle_draws (now : Ticks) : (s.startCycle now).draws = s.draws := rfl

/-! ### State.abortCycle -/

@[simp] theorem State.abortCycle_cfg : (s.abortCycle).cfg = s.cfg := rfl
@[simp] theorem State.abortCycle_phase : (s.abortCycle).phase = s.phase := rfl
@[simp] theorem State.abortCycle_cnt : (s.abortCycle).cnt = s.cnt := rfl
@[simp] theorem State.abortCycle_buf : (s.abortCycle).buf = s.buf := rfl
@[simp] theorem State.abortCycle_resyncCnt : (s.abortCycle).resyncCnt = s.resyncCnt := rfl
@[simp] theorem State.abortCycle_lastPollTime : (s.abortCycle).lastPollTime = s.lastPollTime := rfl
@[simp] theorem State.abortCycle_lastPollValid : (s.abortCycle).lastPollValid = s.lastPollValid := rfl
@[simp] theorem State.abortCycle_snapValid : (s.abortCycle).snapValid = s.snapValid := rfl
@[simp] theorem State.abortCycle_snap : (s.abortCycle).snap = s.snap := rfl
@[simp] theorem State.abortCycle_aux : (s.abortCycle).aux = s.aux := rfl
@[simp] theorem State.abortCycle_inputs : (s.abortCycle).inputs = withoutCollaborator s.inputs := rfl
@[simp] theorem State.abortCycle_out : (s.abortCycle).out = s.out ++ [.response ⟨.errAborted, 0⟩] ++ [.request .closeConn] := rfl
@[simp] theorem State.abortCycle_conn : (s.abortCycle).conn = .closed := rfl
@[simp] theorem State.abortCycle_draws : (s.abortCycle).draws = s.draws := rfl

/-! ### State.closeUnlessConnect: `inputs` and `out` are in closeUnlessConnect_cases -/

@[simp] theorem State.closeUnlessConnect_cfg : (s.closeUnlessConnect).cfg = s.cfg := by
  unfold State.closeUnlessConnect; split <;> rfl
@[simp] theorem State.closeUnlessConnect_phase : (s.closeUnlessConnect).phase = s.phase := by
  unfold State.closeUnlessConnect; split <;> rfl
@[simp] theorem State.closeUnlessConnect_cnt : (s.closeUnlessConnect).cnt = s.cnt := by
  unfold State.closeUnlessConnect; split <;> rfl
@[simp] theorem State.closeUnlessConnect_buf : (s.closeUnlessConnect).buf = s.buf := by
  unfold State.closeUnlessConnect; split <;> rfl
@[simp] theorem State.closeUnlessConnect_resyncCnt : (s.closeUnlessConnect).resyncCnt = s.resyncCnt := by
  unfold State.closeUnlessConnect; split <;> rfl
@[simp] theorem State.closeUnlessConnect_lastPollTime : (s.closeUnlessConnect).lastPollTime = s.lastPollTime := by
  unfold State.closeUnlessConnect; split <;> rfl
@[simp] theorem State.closeUnlessConnect_lastPollValid : (s.closeUnlessConnect).lastPollValid = s.lastPollValid := by
  unfold State.closeUnlessConnect; split <;> rfl
@[simp] theorem State.closeUnlessConnect_snapValid : (s.closeUnlessConnect).snapValid = s.snapValid := by
  unfold State.closeUnlessConnect; split <;> rfl
@[simp] theorem State.closeUnlessConnect_snap : (s.closeUnlessConnect).snap = s.snap := by
  unfold State.closeUnlessConnect; split <;> rfl
@[simp] theorem State.closeUnlessConnect_aux : (s.closeUnlessConnect).aux = s.aux := by
  unfold State.closeUnlessConnect; split <;> rfl
@[simp] theorem State.closeUnlessConnect_conn : (s.closeUnlessConnect).conn = .closed := by
  unfold State.closeUnlessConnect; split <;> rfl
@[simp] theorem State.closeUnlessConnect_draws : (s.closeUnlessConnect).draws = s.draws := by
  unfold State.closeUnlessConnect; split <;> rfl

/-! ### State.raiseError: `inputs` and `out` are in raiseError_cases -/

@[simp] theorem State.raiseError_cfg (e : CycleError) : (s.raiseError e).cfg = s.cfg := by
  simp [State.raiseError]
@[simp] theorem State.raiseError_phase (e : CycleError) : (s.raiseError e).phase = .idle := by
  simp [State.raiseError]
@[simp] theorem State.raiseError_cnt (e : CycleError) : (s.raiseError e).cnt = 0 := by
  simp [State.raiseError]
@[simp] theorem State.raiseError_buf (e : CycleError) : (s.raiseError e).buf = s.buf := by
  simp [State.raiseError]
@[simp] theorem State.raiseError_resyncCnt (e : CycleError) : (s.raiseError e).resyncCnt = s.resyncCnt := by
  simp [State.raiseError]
@[simp] theorem State.raiseError_lastPollTime (e : CycleError) : (s.raiseError e).lastPollTime = s.lastPollTime := by
  simp [State.raiseError]
@[simp] theorem State.raiseError_lastPollValid (e : CycleError) : (s.raiseError e).lastPollValid = s.lastPollValid := by
  simp [State.raiseError]
@[simp] theorem State.raiseError_snapValid (e : CycleError) : (s.raiseError e).snapValid = s.snapValid := by
  simp [State.raiseError]
@[simp] theorem State.raiseError_snap (e : CycleError) : (s.raiseError e).snap = s.snap := by
  simp [State.raiseError]
@[simp] theorem State.raiseError_aux (e : CycleError) : (s.raiseError e).aux = s.aux := by
  simp [State.raiseError]
@[simp] theorem State.raiseError_conn (e : CycleError) : (s.raiseError e).conn = .closed := by
  simp [State.raiseError]
@[simp] theorem State.raiseError_draws (e : CycleError) : (s.raiseError e).draws = s.draws := by
  simp [State.raiseError]

/-! ### State.commitFrame: `snap` and `aux` are in commitFrame_cases -/

@[simp] theorem State.commitFrame_cfg (f : Memory) : (s.commitFrame f).cfg = s.cfg := by
  unfold State.commitFrame; split <;> rfl
@[simp] theorem State.commitFrame_phase (f : Memory) : (s.commitFrame f).phase = s.phase := by
  unfold State.commitFrame; split <;> rfl
@[simp] theorem State.commitFrame_cnt (f : Memory) : (s.commitFrame f).cnt = s.cnt := by
  unfold State.commitFrame; split <;> rfl
@[simp] theorem State.commitFrame_buf (f : Memory) : (s.commitFrame f).buf = s.buf := by
  unfold State.commitFrame; split <;> rfl
@[simp] theorem State.commitFrame_resyncCnt (f : Memory) : (s.commitFrame f).resyncCnt = s.resyncCnt := by
  unfold State.commitFrame; split <;> rfl
@[simp] theorem State.commitFrame_lastPollTime (f : Memory) : (s.commitFrame f).lastPollTime = s.lastPollTime := by
  unfold State.commitFrame; split <;> rfl
@[simp] theorem State.commitFrame_lastPollValid (f : Memory) : (s.commitFrame f).lastPollValid = s.lastPollValid := by
  unfold State.commitFrame; split <;> rfl
@[simp] theorem State.commitFrame_snapValid (f : Memory) : (s.commitFrame f).snapValid = true := by
  unfold State.commitFrame; split <;> rfl
@[simp] theorem State.commitFrame_inputs (f : Memory) : (s.commitFrame f).inputs = s.inputs := by
  unfold State.commitFrame; split <;> rfl
@[simp] theorem State.commitFrame_out (f : Memory) : (s.commitFrame f).out = s.out := by
  unfold State.commitFrame; split <;> rfl
@[simp] theorem State.commitFrame_conn (f : Memory) : (s.commitFrame f).conn = s.conn := by
  unfold State.commitFrame; split <;> rfl
@[simp] theorem State.commitFrame_draws (f : Memory) : (s.commitFrame f).draws = s.draws := by
  unfold State.commitFrame; split <;> rfl

/-! ### State.completeValid: `snap` and `aux` are those of the commit -/

@[simp] theorem State.completeValid_cfg (f : Memory) : (s.completeValid f).cfg = s.cfg := by
  simp [State.completeValid]
@[simp] theorem State.completeValid_phase (f : Memory) : (s.completeValid f).phase = .idle := by
  simp [State.completeValid]
@[simp] theorem State.completeValid_cnt (f : Memory) : (s.completeValid f).cnt = 0 := by
  simp [State.completeValid]
@[simp] theorem State.completeValid_buf (f : Memory) : (s.completeValid f).buf = s.buf := by
  simp [State.completeValid]
@[simp] theorem State.completeValid_resyncCnt (f : Memory) : (s.completeValid f).resyncCnt = s.resyncCnt := by
  simp [State.completeValid]
@[simp] theorem State.completeValid_lastPollTime (f : Memory) : (s.completeValid f).lastPollTime = s.lastPollTime := by
  simp [State.completeValid]
@[simp] theorem State.completeValid_lastPollValid (f : Memory) : (s.completeValid f).lastPollValid = s.lastPollValid := by
  simp [State.completeValid]
@[simp] theorem State.completeValid_snapValid (f : Memory) : (s.completeValid f).snapValid = true := by
  simp [State.completeValid]
@[simp] theorem State.completeValid_snap (f : Memory) : (s.completeValid f).snap = (s.commitFrame f).snap := by
  simp [State.completeValid]
@[simp] theorem State.completeValid_aux (f : Memory) : (s.completeValid f).aux = (s.commitFrame f).aux := by
  simp [State.completeValid]
@[simp] theorem State.completeValid_inputs (f : Memory) : (s.completeValid f).inputs = withoutCollaborator s.inputs := by
  simp [State.completeValid]
@[simp] theorem State.completeValid_out (f : Memory) : (s.completeValid f).out = s.out ++ [.response ⟨.okUpdated, 0⟩] ++ [.request .closeConn] := by
  simp [State.completeValid]
@[simp] theorem State.completeValid_conn (f : Memory) : (s.completeValid f).conn = .closed := by
  simp [State.completeValid]
@[simp] theorem State.completeValid_draws (f : Memory) : (s.completeValid f).draws = s.draws := by
  simp [State.completeValid]

/-! ### State.resync: `resyncCnt` is in resync_cases -/

@[simp] theorem State.resync_cfg : (s.resync).cfg = s.cfg := by
  unfold State.resync; split <;> rfl
@[simp] theorem State.resync_phase : (s.resync).phase = .hunt := by
  unfold State.resync; split <;> rfl
@[simp] theorem State.resync_cnt : (s.resync).cnt = s.cnt := by
  unfold State.resync; split <;> rfl
@[simp] theorem State.resync_buf : (s.resync).buf = s.buf := by
  unfold State.resync; split <;> rfl
@[simp] theorem State.resync_lastPollTime : (s.resync).lastPollTime = s.lastPollTime := by
  unfold State.resync; split <;> rfl
@[simp] theorem State.resync_lastPollValid : (s.resync).lastPollValid = s.lastPollValid := by
  unfold State.resync; split <;> rfl
@[simp] theorem State.resync_snapValid : (s.resync).snapValid = s.snapValid := by
  unfold State.resync; split <;> rfl
@[simp] theorem State.resync_snap : (s.resync).snap = s.snap := by
  unfold State.resync; split <;> rfl
@[simp] theorem State.resync_aux : (s.resync).aux = s.aux := by
  unfold State.resync; split <;> rfl
@[simp] theorem State.resync_inputs : (s.resync).inputs = s.inputs := by
  unfold State.resync; split <;> rfl
@[simp] theorem State.resync_out : (s.resync).out = s.out := by
  unfold State.resync; split <;> rfl
@[simp] theorem State.resync_conn : (s.resync).conn = s.conn := by
  unfold State.resync; split <;> rfl
@[simp] theorem State.resync_draws : (s.resync).draws = s.draws := by
  unfold State.resync; split <;> rfl

end Sys2Proof.Machine
end

