-- ==== Sys2Proof/Laws/Decode.lean ====
section
/-! SUPPORT. The field lemmas of the decoder and the encoder. -/

namespace Sys2Proof

/-- The opcode read back from a host command word. -/
theorem commandOp_word {w x : Nat} (op : BitVec 4) (hx : x < 2 ^ w) : commandOp w (op.toNat * 2 ^ w + x) = op := by
  have h : (op.toNat * 2 ^ w + x) / 2 ^ w = op.toNat := by
    rw [Nat.mul_comm, Nat.mul_add_div (Nat.two_pow_pos w), Nat.div_eq_of_lt hx, Nat.add_zero]
  simp [commandOp, h]

/-- The operand read back from a host command word. -/
theorem commandOperand_word {w x : Nat} (op : BitVec 4) (hx : x < 2 ^ w) : commandOperand w (op.toNat * 2 ^ w + x) = x := by
  simp [commandOperand, Nat.mul_comm op.toNat, Nat.mod_eq_of_lt hx]

/-- An operand read from a word fits its field. -/
theorem commandOperand_lt (w word : Nat) : commandOperand w word < 2 ^ w := Nat.mod_lt _ (Nat.two_pow_pos w)

/-- A host command word is its opcode and its operand. -/
theorem command_split {w word : Nat} (h : word < 2 ^ (w + 4)) :
    (commandOp w word).toNat * 2 ^ w + commandOperand w word = word := by
  have hq : word / 2 ^ w < 16 := Nat.div_lt_of_lt_mul (by rw [Nat.pow_add] at h; exact h)
  simp only [commandOp, commandOperand, BitVec.toNat_ofNat]
  rw [Nat.mod_eq_of_lt (by simpa using hq)]
  exact Nat.div_add_mod' word (2 ^ w)

@[simp] theorem symKind_append (kind : BitVec 2) (data : Byte) : symKind (kind ++ data) = kind :=
  BitVec.extractLsb'_append_eq_left

@[simp] theorem symData_append (kind : BitVec 2) (data : Byte) : symData (kind ++ data) = data :=
  BitVec.extractLsb'_append_eq_right

/-- A stream symbol is its kind and its data. -/
theorem sym_split (sym : BitVec 10) : symKind sym ++ symData sym = sym := by
  apply BitVec.eq_of_toNat_eq
  have := sym.isLt
  rw [BitVec.toNat_append, ← Nat.shiftLeft_add_eq_or_of_lt (symData sym).isLt]
  simp only [symKind, symData, BitVec.extractLsb'_toNat, Nat.shiftRight_eq_div_pow, Nat.shiftLeft_eq]
  omega

/-- No transfer on a ready port is rejected (R100). -/
theorem decode_ok_of_ready {w : Nat} {p : Phase} {t : Transfer} (h : Port.ready p t.port = true) : ∃ i, decode w p t = .ok i := by
  cases t with
  | command word => exact ⟨_, rfl⟩
  | stream sym =>
    simp only [Transfer.port] at h
    simp only [decode, decodeStream, h, if_true]
    cases p <;> simp_all [Port.ready, decodeByte] <;> split <;> exact ⟨_, rfl⟩
  | connResponse crsp =>
    simp only [Transfer.port] at h
    simp only [decode, decodeConnResponse, h, if_true]
    split <;> exact ⟨_, rfl⟩
  | reset => exact ⟨_, rfl⟩
  | connRequest req => exact absurd h (by simp [Transfer.port, Port.ready])

end Sys2Proof
end

