-- ==== Sys2Proof/Laws/Memory.lean ====
section
/-! SUPPORT. The laws of the frame buffer's bytes: every operation keeps the canonical form, and what a read gives after it. -/

namespace Sys2Proof.Machine

theorem Memory.wfBetween_mono {lo lo' hi : Nat} (h : lo' ≤ lo) :
    ∀ {m : Memory}, Memory.wfBetween lo hi m = true → Memory.wfBetween lo' hi m = true
  | [], _ => rfl
  | (a, b) :: m, hm => by
    simp only [Memory.wfBetween, Bool.and_eq_true, decide_eq_true_eq] at hm ⊢
    exact ⟨⟨⟨by omega, hm.1.1.2⟩, hm.1.2⟩, hm.2⟩

/-- Below the first listed index every byte reads as unwritten. -/
theorem Memory.read_below {lo hi i : Nat} (hi' : i < lo) :
    ∀ {m : Memory}, Memory.wfBetween lo hi m = true → m.read i = unwrittenByte
  | [], _ => rfl
  | (a, b) :: m, hm => by
    simp only [Memory.wfBetween, Bool.and_eq_true, decide_eq_true_eq] at hm
    have : a ≠ i := by omega
    simp only [Memory.read, this, if_false]
    exact Memory.read_below (by omega) hm.2

theorem Memory.wfBetween_cons {lo hi i : Nat} {v : Byte} {m : Memory} (hlo : lo ≤ i) (hhi : i < hi)
    (hm : Memory.wfBetween (i + 1) hi m = true) : Memory.wfBetween lo hi (Memory.cons i v m) = true := by
  unfold Memory.cons
  split
  · exact Memory.wfBetween_mono (by omega) hm
  · simp_all [Memory.wfBetween]

theorem Memory.wfBetween_write {hi i : Nat} {v : Byte} (hhi : i < hi) :
    ∀ {lo : Nat} {m : Memory}, lo ≤ i → Memory.wfBetween lo hi m = true → Memory.wfBetween lo hi (m.write i v) = true
  | lo, [], hlo, _ => Memory.wfBetween_cons hlo hhi rfl
  | lo, (a, b) :: m, hlo, hm => by
    have h := hm
    simp only [Memory.wfBetween, Bool.and_eq_true, decide_eq_true_eq] at h
    simp only [Memory.write]
    split
    · refine Memory.wfBetween_cons hlo hhi ?_
      simp only [Memory.wfBetween, Bool.and_eq_true, decide_eq_true_eq]
      exact ⟨⟨⟨by omega, h.1.1.2⟩, h.1.2⟩, h.2⟩
    · split
      · rename_i _ he
        subst he
        exact Memory.wfBetween_cons hlo hhi h.2
      · simp only [Memory.wfBetween, Bool.and_eq_true, decide_eq_true_eq]
        exact ⟨⟨⟨by omega, h.1.1.2⟩, h.1.2⟩, Memory.wfBetween_write hhi (by omega) h.2⟩

/-- A write inside the buffer keeps the canonical form. -/
theorem Memory.wf_write {n i : Nat} {v : Byte} {m : Memory} (hi : i < n) (hm : m.wf n = true) : (m.write i v).wf n = true :=
  Memory.wfBetween_write hi (Nat.zero_le _) hm

theorem Memory.read_cons {lo hi i : Nat} {v : Byte} {m : Memory} (hm : Memory.wfBetween lo hi m = true) (hi' : i < lo) (j : Nat) :
    (Memory.cons i v m).read j = if j = i then v else m.read j := by
  unfold Memory.cons
  split
  · split
    · subst_vars
      exact Memory.read_below hi' hm
    · rfl
  · by_cases hj : j = i
    · simp [Memory.read, hj]
    · simp [Memory.read, hj, Ne.symm hj]

theorem Memory.read_writeBetween {hi i : Nat} {v : Byte} (j : Nat) :
    ∀ {lo : Nat} {m : Memory}, Memory.wfBetween lo hi m = true →
      (m.write i v).read j = if j = i then v else m.read j
  | _, [], _ => Memory.read_cons (lo := i + 1) (hi := i + 1) rfl (Nat.lt_succ_self i) j
  | lo, (a, b) :: m, hm => by
    have h := hm
    simp only [Memory.wfBetween, Bool.and_eq_true, decide_eq_true_eq] at h
    simp only [Memory.write]
    split
    · exact Memory.read_cons (lo := a) (by simp only [Memory.wfBetween, Bool.and_eq_true, decide_eq_true_eq]; exact ⟨⟨⟨Nat.le_refl a, h.1.1.2⟩, h.1.2⟩, h.2⟩) (by omega) j
    · split
      · rename_i _ he
        subst he
        rw [Memory.read_cons (lo := i + 1) h.2 (Nat.lt_succ_self i)]
        by_cases hj : j = i
        · simp [hj]
        · simp [Memory.read, hj, Ne.symm hj]
      · rename_i _ hne
        have ih := Memory.read_writeBetween (v := v) (i := i) j h.2
        by_cases hj : a = j
        · subst hj
          simp [Memory.read, Ne.symm hne]
        · simp [Memory.read, hj, ih]

/-- A read after a write: the byte written at its index, every other byte as before. -/
theorem Memory.read_write {n i j : Nat} {v : Byte} {m : Memory} (hm : m.wf n = true) :
    (m.write i v).read j = if j = i then v else m.read j :=
  Memory.read_writeBetween j hm

theorem Memory.wfBetween_widen {hi hi' : Nat} (h : hi ≤ hi') :
    ∀ {lo : Nat} {m : Memory}, Memory.wfBetween lo hi m = true → Memory.wfBetween lo hi' m = true
  | _, [], _ => rfl
  | _, (a, b) :: m, hm => by
    simp only [Memory.wfBetween, Bool.and_eq_true, decide_eq_true_eq] at hm ⊢
    exact ⟨⟨⟨hm.1.1.1, by omega⟩, hm.1.2⟩, Memory.wfBetween_widen h hm.2⟩

/-- A buffer given by its bytes has the canonical form. -/
theorem Memory.wf_ofBytes (f : Nat → Byte) : ∀ n, (Memory.ofBytes f n).wf n = true
  | 0 => rfl
  | n + 1 => Memory.wf_write (Nat.lt_succ_self n) (Memory.wfBetween_widen (Nat.le_succ n) (Memory.wf_ofBytes f n))

/-- The bytes drawn at a RESET event have the canonical form. -/
theorem drawnBuffer_wf (n draw : Nat) : (drawnBuffer n draw).wf n = true := Memory.wf_ofBytes _ n

theorem State.resetWith_buf_wf (c : Config) : (State.resetWith c).buf.wf c.n = true := rfl

end Sys2Proof.Machine
end

