-- ==== Sys2Proof/Laws/Ops.lean ====
section
/-! SUPPORT. One lemma per shared operation that says what it can do, for proofs to cite instead of unfolding it. -/

namespace Sys2Proof.Machine

/-! ### Taking an event -/

/-- The event taken is the first on a ready port; the others stay on offer, in their order. -/
theorem takeReady_some {p : Phase} :
    ∀ {ts : List Transfer} {t : Transfer} {rest : List Transfer}, takeReady p ts = some (t, rest) →
      ∃ pre post, ts = pre ++ t :: post ∧ rest = pre ++ post ∧
        (∀ u ∈ pre, Port.ready p u.port = false) ∧ Port.ready p t.port = true
  | [], _, _, h => by simp [takeReady] at h
  | u :: us, t, rest, h => by
    simp only [takeReady] at h
    split at h
    · rename_i hu
      simp only [Option.some.injEq, Prod.mk.injEq] at h
      obtain ⟨rfl, rfl⟩ := h
      exact ⟨[], us, rfl, rfl, by simp, hu⟩
    · rename_i hu
      split at h
      · simp at h
      · rename_i v vs hv
        simp only [Option.some.injEq, Prod.mk.injEq] at h
        obtain ⟨rfl, rfl⟩ := h
        obtain ⟨pre, post, rfl, rfl, hpre, ht⟩ := takeReady_some hv
        exact ⟨u :: pre, post, rfl, rfl, by simpa [hu] using hpre, ht⟩

/-- No event is taken exactly where no port with an offer is ready. -/
theorem takeReady_none {p : Phase} : ∀ {ts : List Transfer}, takeReady p ts = none ↔ ∀ u ∈ ts, Port.ready p u.port = false
  | [] => by simp [takeReady]
  | u :: us => by
    have ih := takeReady_none (p := p) (ts := us)
    by_cases hu : Port.ready p u.port = true
    · simp [takeReady, hu]
    · cases h : takeReady p us with
      | none => simpa [takeReady, hu, h] using ih.mp h
      | some x =>
        have : ¬ ∀ v ∈ us, Port.ready p v.port = false := fun hn => by rw [ih.mpr hn] at h; exact absurd h (by simp)
        simpa [takeReady, hu, h] using this

/-- Where the first event on a ready port stands. -/
theorem takeReady_append {p : Phase} {t : Transfer} {post : List Transfer} (ht : Port.ready p t.port = true) :
    ∀ {pre : List Transfer}, (∀ u ∈ pre, Port.ready p u.port = false) → takeReady p (pre ++ t :: post) = some (t, pre ++ post)
  | [], _ => by simp [takeReady, ht]
  | u :: us, h => by
    have hu := h u (by simp)
    have ih := takeReady_append (post := post) ht (pre := us) (fun v hv => h v (by simp [hv]))
    simp [takeReady, hu, ih]

/-- What a step that answers a next state did. -/
theorem step_next {s s' : State} (h : step s = .next s') :
    ∃ t rest i, takeReady s.phase s.inputs = some (t, rest) ∧ decode s.cfg.timeW s.phase t = .ok i ∧
      exec i (s.consume rest) = .next s' := by
  unfold step at h
  split at h
  · simp at h
  · rename_i t rest ht
    split at h
    · rename_i i hi
      exact ⟨t, rest, i, ht, hi, h⟩
    · simp at h

theorem mem_withoutCollaborator {t : Transfer} {ts : List Transfer} :
    t ∈ withoutCollaborator ts ↔ t ∈ ts ∧ t.port.ofCollaborator = false := by
  simp [withoutCollaborator]

/-! ### Ending a cycle with an error -/

/-- `closeUnlessConnect` touches only the connection, what it delivers and the outputs. -/
theorem closeUnlessConnect_cases (s : State) :
    (s.phase = .connect ∧ s.closeUnlessConnect = s.withConn .closed) ∨
      (s.phase ≠ .connect ∧ s.closeUnlessConnect = s.requestClose) := by
  unfold State.closeUnlessConnect
  split
  · exact .inl ⟨‹_›, rfl⟩
  · exact .inr ⟨‹_›, rfl⟩

/-- What `raise E` does: in CONNECT there is no CLOSE, elsewhere there is. -/
theorem raiseError_cases (e : CycleError) (s : State) :
    (s.phase = .connect ∧ s.raiseError e = ((s.respond e.status 0).withConn .closed).toIdle) ∨
      (s.phase ≠ .connect ∧ s.raiseError e = ((s.respond e.status 0).requestClose).toIdle) := by
  unfold State.raiseError
  rcases closeUnlessConnect_cases (s.respond e.status 0) with ⟨h, e'⟩ | ⟨h, e'⟩
  · exact .inl ⟨h, by rw [e']⟩
  · exact .inr ⟨h, by rw [e']⟩

/-! ### A completed frame -/

/-- The commit by variant. -/
theorem commitFrame_cases (f : Memory) (s : State) :
    (s.cfg.variant = .a ∧ s.commitFrame f = s.commitShared (decodeA f)) ∨
      (s.cfg.variant = .b ∧ s.commitFrame f = (s.commitShared (decodeB f)).commitAux (decodeAux f)) := by
  unfold State.commitFrame
  cases h : s.cfg.variant
  · exact .inl ⟨rfl, rfl⟩
  · exact .inr ⟨rfl, rfl⟩

/-- The resynchronization, with and without a finite cap. -/
theorem resync_cases (s : State) :
    (s.cfg.maxResync = none ∧ s.resync = s.enterPhase .hunt) ∨
      (∃ cap, s.cfg.maxResync = some cap ∧ s.resync = s.countResync.enterPhase .hunt) := by
  unfold State.resync
  cases h : s.cfg.maxResync with
  | none => exact .inl ⟨rfl, rfl⟩
  | some cap => exact .inr ⟨cap, rfl, rfl⟩

/-- The cap is reached exactly where it is finite and the count is the cap. -/
theorem resyncCapReached_iff (s : State) : s.resyncCapReached = true ↔ s.cfg.maxResync = some s.resyncCnt := by
  unfold State.resyncCapReached
  cases h : s.cfg.maxResync with
  | none => simp
  | some cap => simp [eq_comm]

/-- What an invalid frame leads to. -/
theorem frameInvalid_cases (s : State) :
    (s.resyncCapReached = true ∧ s.frameInvalid = s.raiseError .resyncLimit) ∨
      (s.resyncCapReached = false ∧ s.frameInvalid = s.resync) := by
  unfold State.frameInvalid
  cases h : s.resyncCapReached
  · exact .inr ⟨rfl, rfl⟩
  · exact .inl ⟨rfl, rfl⟩

/-- What a completed frame leads to: it is valid, or it is a Variant A frame with another end marker. -/
theorem validateFrame_cases (f : Memory) (s : State) :
    ((s.cfg.variant = .a → endMarkerValid f = true) ∧ s.validateFrame f = s.completeValid f) ∨
      (s.cfg.variant = .a ∧ endMarkerValid f = false ∧ s.validateFrame f = s.frameInvalid) := by
  unfold State.validateFrame
  cases h : s.cfg.variant with
  | a =>
    cases hv : endMarkerValid f
    · exact .inr ⟨rfl, rfl, rfl⟩
    · exact .inl ⟨fun _ => rfl, rfl⟩
  | b => exact .inl ⟨fun h' => by simp at h', rfl⟩

/-! ### The meanings that stop or branch -/

/-- A BYTE taken in FILL. -/
theorem execByteFill_next {b : Byte} {s t : State} (h : execByteFill b s = .next t) :
    s.phase = .fill ∧ s.cnt.toNat < s.cfg.n ∧
      ((s.cnt.toNat + 1 < s.cfg.n ∧ t = (s.storeByte b).countByte) ∨
        (s.cnt.toNat + 1 = s.cfg.n ∧ t = (s.storeByte b).completeFrame)) := by
  unfold execByteFill at h
  split at h
  · rename_i hp
    split at h
    · rename_i hc
      split at h <;> injection h with h
      · exact ⟨hp, hc, .inl ⟨‹_›, h.symm⟩⟩
      · exact ⟨hp, hc, .inr ⟨by omega, h.symm⟩⟩
    · simp at h
  · simp at h

/-- A BYTE taken in HUNT. -/
theorem execByteHunt_next {b : Byte} {s t : State} (h : execByteHunt b s = .next t) :
    s.phase = .hunt ∧ ((b = startMarker1 ∧ t = s.enterPhase .seen) ∨ (b ≠ startMarker1 ∧ t = s.enterPhase .hunt)) := by
  unfold execByteHunt at h
  split at h
  · split at h <;> injection h with h
    · exact ⟨‹_›, .inl ⟨‹_›, h.symm⟩⟩
    · exact ⟨‹_›, .inr ⟨‹_›, h.symm⟩⟩
  · simp at h

/-- A BYTE taken in SEEN. -/
theorem execByteSeen_next {b : Byte} {s t : State} (h : execByteSeen b s = .next t) :
    s.phase = .seen ∧
      ((b = startMarker2 ∧ t = (s.enterPhase .fill).clearCnt) ∨
        (s.cfg.syncReexamine = true ∧ b = startMarker1 ∧ t = s.enterPhase .seen) ∨
        (b ≠ startMarker2 ∧ (s.cfg.syncReexamine = false ∨ b ≠ startMarker1) ∧ t = s.enterPhase .hunt)) := by
  unfold execByteSeen at h
  split at h
  · rename_i hp
    split at h
    · injection h with h
      exact ⟨hp, .inl ⟨‹_›, h.symm⟩⟩
    · split at h <;> injection h with h
      · rename_i hb
        simp only [Bool.and_eq_true, decide_eq_true_eq] at hb
        exact ⟨hp, .inr (.inl ⟨hb.1, hb.2, h.symm⟩)⟩
      · rename_i hne hb
        refine ⟨hp, .inr (.inr ⟨hne, ?_, h.symm⟩)⟩
        cases hr : s.cfg.syncReexamine
        · exact .inl rfl
        · exact .inr (by simpa [hr] using hb)
  · simp at h

/-- A stream symbol that ends the cycle. -/
theorem streamError_next {e : CycleError} {s t : State} (h : streamError e s = .next t) :
    Port.ready s.phase .stream = true ∧ t = s.raiseError e := by
  unfold streamError at h
  split at h
  · injection h with h
    exact ⟨‹_›, h.symm⟩
  · simp at h

/-- CONN_OK taken. -/
theorem execConnOk_next {s t : State} (h : execConnOk s = .next t) :
    s.phase = .connect ∧ t = (s.enterPhase .hunt).withConn .opened := by
  unfold execConnOk at h
  split at h
  · injection h with h
    exact ⟨‹_›, h.symm⟩
  · simp at h

/-- A connection response that ends the cycle. -/
theorem connectFailed_next {s t : State} (h : connectFailed s = .next t) :
    s.phase = .connect ∧ t = s.raiseError .connectFailed := by
  unfold connectFailed at h
  split at h
  · injection h with h
    exact ⟨‹_›, h.symm⟩
  · simp at h

/-- UPDATE's three outcomes. -/
theorem execUpdate_cases (now : Ticks) (s : State) :
    (s.withinCooldown now = true ∧ execUpdate now s = .next (s.respond .okSkipped 0)) ∨
      (s.withinCooldown now = false ∧ s.phase = .idle ∧ execUpdate now s = .next (s.startCycle now)) ∨
      (s.withinCooldown now = false ∧ s.phase ≠ .idle ∧ execUpdate now s = .next (s.abortCycle.startCycle now)) := by
  unfold execUpdate
  cases hw : s.withinCooldown now
  · by_cases hp : s.phase = .idle
    · exact .inr (.inl ⟨rfl, hp, by simp [hp]⟩)
    · exact .inr (.inr ⟨rfl, hp, by simp [hp]⟩)
  · exact .inl ⟨rfl, by simp⟩

/-- A read emits one response and does nothing else. -/
theorem sharedRead_respond (d : BitVec 16) (s : State) : ∃ c e, sharedRead d s = s.respond c e ∧ c ≠ .okUpdated := by
  unfold sharedRead
  split
  · exact ⟨_, _, rfl, by simp⟩
  · exact ⟨_, _, rfl, by simp⟩

/-- A read of a Variant B field emits one response and does nothing else. -/
theorem variantBRead_respond (d : BitVec 16) (s : State) : ∃ c e, variantBRead d s = s.respond c e ∧ c ≠ .okUpdated := by
  unfold variantBRead
  split
  · exact ⟨_, _, rfl, by simp⟩
  · exact sharedRead_respond d s

end Sys2Proof.Machine
end

