-- ==== Sys2Proof/Laws/Exec.lean ====
section
/-! SUPPORT. Everything an instruction can do, said once: the inversion lemma of `exec`. -/

namespace Sys2Proof.Machine

/-- The effects of the instructions that answer a next state, each under the condition it needs. -/
inductive Effect (s : State) : Instr → State → Prop where
  /-- A read, a reserved opcode or a skipped UPDATE: one response. -/
  | answer (i : Instr) (c : Status) (d : BitVec 16) (hc : c ≠ .okUpdated) (hi : (encode 0 i).port = .hostCommand) :
      Effect s i (s.respond c d)
  | start (now : Ticks) (hw : s.withinCooldown now = false) (hp : s.phase = .idle) : Effect s (.update now) (s.startCycle now)
  | preempt (now : Ticks) (hw : s.withinCooldown now = false) (hp : s.phase ≠ .idle) :
      Effect s (.update now) (s.abortCycle.startCycle now)
  | huntMatch (hp : s.phase = .hunt) : Effect s (.byteHunt startMarker1) (s.enterPhase .seen)
  | huntDiscard (b : Byte) (hp : s.phase = .hunt) (hb : b ≠ startMarker1) : Effect s (.byteHunt b) (s.enterPhase .hunt)
  | seenMatch (hp : s.phase = .seen) : Effect s (.byteSeen startMarker2) (s.enterPhase .fill).clearCnt
  | seenAgain (hp : s.phase = .seen) (hr : s.cfg.syncReexamine = true) :
      Effect s (.byteSeen startMarker1) (s.enterPhase .seen)
  | seenDiscard (b : Byte) (hp : s.phase = .seen) (hb : b ≠ startMarker2)
      (hr : s.cfg.syncReexamine = false ∨ b ≠ startMarker1) : Effect s (.byteSeen b) (s.enterPhase .hunt)
  | fillMore (b : Byte) (hp : s.phase = .fill) (hc : s.cnt.toNat + 1 < s.cfg.n) :
      Effect s (.byteFill b) (s.storeByte b).countByte
  | fillValid (b : Byte) (hp : s.phase = .fill) (hc : s.cnt.toNat + 1 = s.cfg.n)
      (hv : s.cfg.variant = .a → endMarkerValid (s.storeByte b).buf = true) :
      Effect s (.byteFill b) ((s.storeByte b).clearCnt.completeValid (s.storeByte b).buf)
  | fillResync (b : Byte) (hp : s.phase = .fill) (hc : s.cnt.toNat + 1 = s.cfg.n) (hv : s.cfg.variant = .a)
      (he : endMarkerValid (s.storeByte b).buf = false) (hn : s.cfg.maxResync ≠ some s.resyncCnt) :
      Effect s (.byteFill b) (s.storeByte b).clearCnt.resync
  | fillLimit (b : Byte) (hp : s.phase = .fill) (hc : s.cnt.toNat + 1 = s.cfg.n) (hv : s.cfg.variant = .a)
      (he : endMarkerValid (s.storeByte b).buf = false) (hn : s.cfg.maxResync = some s.resyncCnt) :
      Effect s (.byteFill b) ((s.storeByte b).clearCnt.raiseError .resyncLimit)
  | streamEnd (i : Instr) (e : CycleError) (hp : Port.ready s.phase .stream = true) (hi : (encode 0 i).port = .stream) :
      Effect s i (s.raiseError e)
  | connOk (hp : s.phase = .connect) : Effect s .connOk ((s.enterPhase .hunt).withConn .opened)
  | connFail (i : Instr) (hp : s.phase = .connect) (hi : (encode 0 i).port = .connResponse) :
      Effect s i (s.raiseError .connectFailed)
  | reset : Effect s .reset s.resetEvent
  | reqOpen : Effect s .reqOpen s.requestOpen
  | reqClose : Effect s .reqClose s.requestClose

/-- A BYTE taken in FILL has one of the effects of R120 to R125. -/
theorem execByteFill_effect {b : Byte} {s t : State} (h : execByteFill b s = .next t) : Effect s (.byteFill b) t := by
  obtain ⟨hp, _, ⟨hc, rfl⟩ | ⟨hc, rfl⟩⟩ := execByteFill_next h
  · exact .fillMore b hp hc
  · unfold State.completeFrame
    rcases validateFrame_cases (s.storeByte b).buf (s.storeByte b).clearCnt with ⟨hv, e⟩ | ⟨hv, he, e⟩ <;> rw [e]
    · exact .fillValid b hp hc hv
    · rcases frameInvalid_cases (s.storeByte b).clearCnt with ⟨hr, e'⟩ | ⟨hr, e'⟩ <;> rw [e']
      · exact .fillLimit b hp hc hv he ((resyncCapReached_iff _).mp hr)
      · refine .fillResync b hp hc hv he fun hn => ?_
        rw [(resyncCapReached_iff (s.storeByte b).clearCnt).mpr hn] at hr
        exact absurd hr (by simp)

/-- What an instruction that answers a next state did. -/
theorem exec_effect {i : Instr} {s t : State} (h : exec i s = .next t) : Effect s i t := by
  have shared : ∀ {j : Instr} {d : BitVec 16}, (encode 0 j).port = .hostCommand →
      (.next (sharedRead d s) : Host.Outcome State Fault Refusal) = .next t → Effect s j t := by
    intro j d hj h
    injection h with h
    obtain ⟨c, e, he, hc⟩ := sharedRead_respond d s
    rw [← h, he]
    exact .answer j c e hc hj
  have onlyB : ∀ {j : Instr} {d : BitVec 16}, (encode 0 j).port = .hostCommand →
      (.next (variantBRead d s) : Host.Outcome State Fault Refusal) = .next t → Effect s j t := by
    intro j d hj h
    injection h with h
    obtain ⟨c, e, he, hc⟩ := variantBRead_respond d s
    rw [← h, he]
    exact .answer j c e hc hj
  cases i with
  | reserved0 x => injection h with h; rw [← h]; exact .answer _ _ _ (by simp) rfl
  | reservedCToF l x => injection h with h; rw [← h]; exact .answer _ _ _ (by simp) rfl
  | rdTemp x => exact shared rfl h
  | rdState x => exact shared rfl h
  | rdValveTarget x => exact shared rfl h
  | rdValveActual x => exact shared rfl h
  | rdValveTargetAttr x => exact shared rfl h
  | rdBufferLower x => exact onlyB rfl h
  | rdBufferUpper x => exact onlyB rfl h
  | rdFlow x => exact onlyB rfl h
  | rdChimney x => exact onlyB rfl h
  | rdFan x => exact onlyB rfl h
  | update now =>
    change execUpdate now s = .next t at h
    rcases execUpdate_cases now s with ⟨_, e⟩ | ⟨hw, hp, e⟩ | ⟨hw, hp, e⟩ <;> rw [e] at h <;> injection h with h <;> rw [← h]
    · exact .answer _ _ _ (by simp) rfl
    · exact .start now hw hp
    · exact .preempt now hw hp
  | byteHunt b =>
    obtain ⟨hp, ⟨rfl, rfl⟩ | ⟨hb, rfl⟩⟩ := execByteHunt_next h
    · exact .huntMatch hp
    · exact .huntDiscard b hp hb
  | byteSeen b =>
    obtain ⟨hp, ⟨rfl, rfl⟩ | ⟨hr, rfl, rfl⟩ | ⟨hb, hr, rfl⟩⟩ := execByteSeen_next h
    · exact .seenMatch hp
    · exact .seenAgain hp hr
    · exact .seenDiscard b hp hb hr
  | byteFill b => exact execByteFill_effect h
  | eof d => obtain ⟨hp, rfl⟩ := streamError_next h; exact .streamEnd _ _ hp rfl
  | timeout d => obtain ⟨hp, rfl⟩ := streamError_next h; exact .streamEnd _ _ hp rfl
  | reservedSym d => obtain ⟨hp, rfl⟩ := streamError_next h; exact .streamEnd _ _ hp rfl
  | connOk => obtain ⟨hp, rfl⟩ := execConnOk_next h; exact .connOk hp
  | connFail => obtain ⟨hp, rfl⟩ := connectFailed_next h; exact .connFail _ hp rfl
  | connReserved00 => obtain ⟨hp, rfl⟩ := connectFailed_next h; exact .connFail _ hp rfl
  | connReserved11 => obtain ⟨hp, rfl⟩ := connectFailed_next h; exact .connFail _ hp rfl
  | reset => injection h with h; rw [← h]; exact .reset
  | reqOpen => injection h with h; rw [← h]; exact .reqOpen
  | reqClose => injection h with h; rw [← h]; exact .reqClose

end Sys2Proof.Machine
end

