-- ==== Sys2Proof/Laws/PerInstr.lean ====
section
/-! SUPPORT. A statement made per instruction: the encoding of a well-formed instruction fits the width of its port. -/

namespace Sys2Proof.Laws.EncodingFits

/-- The transfer that a well-formed instruction encodes to is within its port's width (R72, R79, R86). -/
def Statement (i : Instr) : Prop := ∀ w, i.wellFormed w = true → (encode w i).fits w = true

theorem command {w x : Nat} (op : BitVec 4) (h : operandFits w x = true) : (commandWord w op x).fits w = true := by
  have hx : x < 2 ^ w := by simpa [operandFits] using h
  have hop := op.isLt
  have : op.toNat * 2 ^ w + x < 2 ^ (w + 4) := by
    rw [Nat.pow_add]
    nlinarith [Nat.two_pow_pos w]
  simpa [commandWord, Transfer.fits] using this

theorem reserved0 (x : Nat) : Statement (.reserved0 x) := fun _ h => command _ h

theorem update (x : Nat) : Statement (.update x) := fun _ h => command _ h

theorem rdTemp (x : Nat) : Statement (.rdTemp x) := fun _ h => command _ h

theorem rdState (x : Nat) : Statement (.rdState x) := fun _ h => command _ h

theorem rdValveTarget (x : Nat) : Statement (.rdValveTarget x) := fun _ h => command _ h

theorem rdValveActual (x : Nat) : Statement (.rdValveActual x) := fun _ h => command _ h

theorem rdValveTargetAttr (x : Nat) : Statement (.rdValveTargetAttr x) := fun _ h => command _ h

theorem rdBufferLower (x : Nat) : Statement (.rdBufferLower x) := fun _ h => command _ h

theorem rdBufferUpper (x : Nat) : Statement (.rdBufferUpper x) := fun _ h => command _ h

theorem rdFlow (x : Nat) : Statement (.rdFlow x) := fun _ h => command _ h

theorem rdChimney (x : Nat) : Statement (.rdChimney x) := fun _ h => command _ h

theorem rdFan (x : Nat) : Statement (.rdFan x) := fun _ h => command _ h

theorem reservedCToF (l : BitVec 2) (x : Nat) : Statement (.reservedCToF l x) := fun _ h => command _ h

theorem byteHunt (d : Byte) : Statement (.byteHunt d) := fun _ _ => rfl

theorem byteSeen (d : Byte) : Statement (.byteSeen d) := fun _ _ => rfl

theorem byteFill (d : Byte) : Statement (.byteFill d) := fun _ _ => rfl

theorem eof (d : Byte) : Statement (.eof d) := fun _ _ => rfl

theorem timeout (d : Byte) : Statement (.timeout d) := fun _ _ => rfl

theorem reservedSym (d : Byte) : Statement (.reservedSym d) := fun _ _ => rfl

theorem connOk : Statement .connOk := fun _ _ => rfl

theorem connFail : Statement .connFail := fun _ _ => rfl

theorem connReserved00 : Statement .connReserved00 := fun _ _ => rfl

theorem connReserved11 : Statement .connReserved11 := fun _ _ => rfl

theorem reset : Statement .reset := fun _ _ => rfl

theorem reqOpen : Statement .reqOpen := fun _ _ => rfl

theorem reqClose : Statement .reqClose := fun _ _ => rfl

end Sys2Proof.Laws.EncodingFits
end

