-- ==== Sys2Proof/Tests/Slice0.lean ====
section
/-! SUPPORT. Tests: the encodings written out from spec/30_encoding.md, single steps with the results that spec/95_test_vectors.md
and the rules give, and a witness for the hypotheses of each statement. -/

namespace Sys2Proof.Tests

open Sys2Proof.Machine

/-! ### Well-formedness -/

theorem test_wellFormed_refuses_wide_now : (Instr.update 256).wellFormed 8 = false := by decide
theorem test_wellFormed_admits_widest_now : (Instr.update 255).wellFormed 8 = true := by decide
theorem test_wellFormed_refuses_wide_operand : (Instr.rdTemp 256).wellFormed 8 = false := by decide
theorem test_wellFormed_refuses_wide_reserved_operand : (Instr.reservedCToF 3 256).wellFormed 8 = false := by decide

/-! ### Decoding: one word per row (R72, R73, R79, R86, R91) -/

theorem test_decode_reserved0 : decode 64 .idle (.command 0x00000000000000005) = .ok (.reserved0 5) := by decide
theorem test_decode_update : decode 64 .hunt (.command 0x100000000000003E8) = .ok (.update 1000) := by decide
theorem test_decode_rdTemp : decode 64 .idle (.command 0x2000000000000FFFF) = .ok (.rdTemp 0xFFFF) := by decide
theorem test_decode_rdState : decode 64 .idle (.command 0x30000000000000000) = .ok (.rdState 0) := by decide
theorem test_decode_rdValveTarget : decode 64 .idle (.command 0x40000000000000000) = .ok (.rdValveTarget 0) := by decide
theorem test_decode_rdValveActual : decode 64 .idle (.command 0x50000000000000000) = .ok (.rdValveActual 0) := by decide
theorem test_decode_rdValveTargetAttr : decode 64 .idle (.command 0x60000000000000000) = .ok (.rdValveTargetAttr 0) := by decide
theorem test_decode_rdBufferLower : decode 64 .idle (.command 0x70000000000000000) = .ok (.rdBufferLower 0) := by decide
theorem test_decode_rdBufferUpper : decode 64 .idle (.command 0x80000000000000000) = .ok (.rdBufferUpper 0) := by decide
theorem test_decode_rdFlow : decode 64 .idle (.command 0x90000000000000000) = .ok (.rdFlow 0) := by decide
theorem test_decode_rdChimney : decode 64 .idle (.command 0xA0000000000000000) = .ok (.rdChimney 0) := by decide
theorem test_decode_rdFan : decode 64 .fill (.command 0xB0000000000000000) = .ok (.rdFan 0) := by decide
theorem test_decode_reservedC : decode 8 .idle (.command 0xC04) = .ok (.reservedCToF 0 4) := by decide
theorem test_decode_reservedF : decode 8 .seen (.command 0xF00) = .ok (.reservedCToF 3 0) := by decide
theorem test_decode_byteHunt : decode 64 .hunt (.stream 0x00E) = .ok (.byteHunt 0x0E) := by decide
theorem test_decode_byteSeen : decode 64 .seen (.stream 0x0FF) = .ok (.byteSeen 0xFF) := by decide
theorem test_decode_byteFill : decode 64 .fill (.stream 0x050) = .ok (.byteFill 0x50) := by decide
theorem test_decode_eof : decode 64 .hunt (.stream 0x100) = .ok (.eof 0) := by decide
theorem test_decode_timeout : decode 64 .seen (.stream 0x2FF) = .ok (.timeout 0xFF) := by decide
theorem test_decode_reservedSym : decode 64 .fill (.stream 0x300) = .ok (.reservedSym 0) := by decide
theorem test_decode_connOk : decode 64 .connect (.connResponse 0b01) = .ok .connOk := by decide
theorem test_decode_connFail : decode 64 .connect (.connResponse 0b10) = .ok .connFail := by decide
theorem test_decode_connReserved00 : decode 64 .connect (.connResponse 0b00) = .ok .connReserved00 := by decide
theorem test_decode_connReserved11 : decode 64 .connect (.connResponse 0b11) = .ok .connReserved11 := by decide
theorem test_decode_reset : decode 64 .fill .reset = .ok .reset := by decide
theorem test_decode_reqOpen : decode 64 .idle (.connRequest 0b01) = .ok .reqOpen := by decide
theorem test_decode_reqClose : decode 64 .idle (.connRequest 0b10) = .ok .reqClose := by decide
theorem test_decode_rejects_reserved_request : decode 64 .idle (.connRequest 0b11) = .error .reservedRequest := by decide
theorem test_decode_rejects_byte_in_idle : decode 64 .idle (.stream 0x00E) = .error .portNotReady := by decide
theorem test_decode_rejects_crsp_in_hunt : decode 64 .hunt (.connResponse 0b01) = .error .portNotReady := by decide

theorem test_tableWord_update : decodeTableWord 8 0x1 = some (.update 0) := by decide
theorem test_tableWord_eof : decodeTableWord 16 0x100 = some (.eof 0) := by decide

/-! ### Small states -/

/-- Variant B. -/
def cfgB : Config := { Config.default with variant := .b }

/-- Variant A with a resynchronization cap. -/
def cfgCap (cap : Nat) : Config := { Config.default with maxResync := some cap }

/-- `P_SYNC_REEXAMINE` = 1. -/
def cfgRe : Config := { Config.default with syncReexamine := true }

/-- `P_TIME_W` = 8. -/
def cfg8 : Config := { Config.default with timeW := 8 }

/-- A phase of a cycle that started at `t`, under a configuration. -/
def inCycle (c : Config) (p : Phase) (t : Ticks) : State :=
  { State.resetWith c with phase := p, conn := connectionIn p, lastPollTime := t, lastPollValid := true }

/-- Filling, with these bytes in the buffer and this count. -/
def filling (c : Config) (m : Memory) (k : BitVec 6) : State := { inCycle c .fill 100 with buf := m, cnt := k }

/-- A snapshot of both variants' registers, committed. -/
def withSnap (c : Config) : State :=
  { inCycle c .idle 100 with
    snapValid := true, snap := ⟨0x0096, 0x50, 0x32, 0x37, 7⟩, aux := ⟨0x2D, 0x3C, 0x46, 0x96, 0x03⟩ }

/-- The next state of an outcome. -/
def nextOf : Host.Outcome State Fault Refusal → Option State
  | .next s => some s
  | .fault _ => none
  | .refused _ => none

/-- A property of the state after one step on one event. -/
def after (t : Transfer) (s : State) : Option State := nextOf (step (s.offer t))

/-- The 16 bytes of a Variant A frame but the last (95_test_vectors.md 2.5, row `80 00 65 66 61`). -/
def frameA : Memory := [(0, 0x80), (2, 0x65), (3, 0x66), (4, 0x61), (14, 0x0D)]

/-- The 54 bytes of a Variant B frame but the last (95_test_vectors.md 2.6 and Program 3). -/
def frameB : Memory :=
  [(1, 0x0A), (2, 0x64), (3, 0x28), (4, 0x08), (34, 0x2D), (36, 0x3C), (37, 0x46), (47, 0x96), (50, 0x03)]

/-! ### Single steps -/

-- 95_test_vectors.md 2.8 row 4: equality passes; row 3: one tick less skips.
theorem test_update_equality_passes :
    (after (.command 0x1000000000000006E) (inCycle Config.default .idle 100)).map (fun s => (s.phase, s.lastPollTime, s.out)) =
      some (.connect, 110, [.request (.openConn "" 10001)]) := by decide
-- 2.8, modular time: last_poll_time 250, now 3 is 9 ticks later.
theorem test_update_skips_across_the_wrap :
    (after (.command 0x103) (inCycle cfg8 .idle 250)).map (fun s => (s.phase, s.lastPollTime, s.out)) =
      some (.idle, 250, [.response ⟨.okSkipped, 0⟩]) := by decide
-- 2.8 row 7: preemption.
theorem test_update_preempts :
    (after (.command 0x10000000000000078) (inCycle Config.default .hunt 110)).map (fun s => (s.phase, s.lastPollTime, s.out)) =
      some (.connect, 120, [.response ⟨.errAborted, 0⟩, .request .closeConn, .request (.openConn "" 10001)]) := by decide
-- 2.9: the operand is ignored.
theorem test_rdTemp : (after (.command 0x2000000000000FFFF) (withSnap Config.default)).map (·.out) =
    some [.response ⟨.okData, 0x0096⟩] := by decide
theorem test_rdTemp_before_commit : (after (.command 0x20000000000000000) State.reset).map (·.out) =
    some [.response ⟨.errNoData, 0⟩] := by decide
-- E4, R168: status 55.
theorem test_rdState : (after (.command 0x30000000000000000) (withSnap Config.default)).map (·.out) =
    some [.response ⟨.okData, 0x0737⟩] := by decide
theorem test_rdValveTarget : (after (.command 0x40000000000000000) (withSnap Config.default)).map (·.out) =
    some [.response ⟨.okData, 0x0050⟩] := by decide
theorem test_rdValveActual : (after (.command 0x50000000000000000) (withSnap Config.default)).map (·.out) =
    some [.response ⟨.okData, 0x0032⟩] := by decide
theorem test_rdValveTargetAttr : (after (.command 0x60000000000000000) (withSnap Config.default)).map (·.out) =
    some [.response ⟨.okData, 0x0032⟩] := by decide
theorem test_rdBufferLower : (after (.command 0x70000000000000000) (withSnap cfgB)).map (·.out) =
    some [.response ⟨.okData, 0x002D⟩] := by decide
theorem test_rdBufferUpper : (after (.command 0x80000000000000000) (withSnap cfgB)).map (·.out) =
    some [.response ⟨.okData, 0x003C⟩] := by decide
theorem test_rdFlow : (after (.command 0x90000000000000000) (withSnap cfgB)).map (·.out) =
    some [.response ⟨.okData, 0x0046⟩] := by decide
theorem test_rdChimney : (after (.command 0xA0000000000000000) (withSnap cfgB)).map (·.out) =
    some [.response ⟨.okData, 0x0096⟩] := by decide
theorem test_rdFan : (after (.command 0xB0000000000000000) (withSnap cfgB)).map (·.out) =
    some [.response ⟨.okData, 0x0003⟩] := by decide
-- 2.9, check order: ERR_NOT_PRESENT before ERR_NO_DATA.
theorem test_rdFan_in_variant_a : (after (.command 0xB0000000000000000) State.reset).map (·.out) =
    some [.response ⟨.errNotPresent, 0⟩] := by decide
-- 2.10.
theorem test_reserved0 : (after (.command 0x00000000000000000) State.reset).map (·.out) =
    some [.response ⟨.errIllegalCmd, 0⟩] := by decide
theorem test_reservedC : (after (.command 0xC0000000000000000) (filling Config.default [] 3)).map (fun s => (s.phase, s.cnt, s.out)) =
    some (.fill, 3, [.response ⟨.errIllegalCmd, 0⟩]) := by decide
-- 2.1.
theorem test_byteHunt_matches : (after (.stream 0x00E) (inCycle Config.default .hunt 0)).map (·.phase) = some .seen := by decide
theorem test_byteHunt_discards_ff : (after (.stream 0x0FF) (inCycle Config.default .hunt 0)).map (·.phase) = some .hunt := by decide
theorem test_byteSeen_discards_0e : (after (.stream 0x00E) (inCycle Config.default .seen 0)).map (·.phase) = some .hunt := by decide
theorem test_byteSeen_reexamines_0e : (after (.stream 0x00E) (inCycle cfgRe .seen 0)).map (·.phase) = some .seen := by decide
-- R120's example, with a byte equal to what an unlisted index reads as written over another.
theorem test_byteFill_stores : (after (.stream 0x000) (filling Config.default [(0, 1), (3, 7)] 3)).map (fun s => (s.phase, s.cnt, s.buf)) =
    some (.fill, 4, [(0, 1)]) := by decide
theorem test_byteFill_commits_a : (after (.stream 0x0FF) (filling Config.default frameA 15)).map (fun s => (s.phase, s.snap, s.out)) =
    some (.idle, ⟨32768, 102, 101, 97, 4⟩, [.response ⟨.okUpdated, 0⟩, .request .closeConn]) := by decide
theorem test_byteFill_commits_b : (after (.stream 0x001) (filling cfgB frameB 53)).map (fun s => (s.snap, s.aux)) =
    some (⟨265, 100, 40, 8, 3⟩, ⟨45, 60, 70, 150, 3⟩) := by decide
-- 2.2 `0D FE`; 2.3 with the cap at 0.
theorem test_byteFill_resynchronizes : (after (.stream 0x0FE) (filling Config.default frameA 15)).map (fun s => (s.phase, s.cnt, s.out)) =
    some (.hunt, 0, []) := by decide
theorem test_byteFill_cap : (after (.stream 0x0FE) (filling (cfgCap 0) frameA 15)).map (fun s => (s.phase, s.out)) =
    some (.idle, [.response ⟨.errResyncLimit, 0⟩, .request .closeConn]) := by decide
-- 2.11.
theorem test_eof : (after (.stream 0x100) (filling Config.default frameA 15)).map (fun s => (s.phase, s.cnt, s.out)) =
    some (.idle, 0, [.response ⟨.errStreamInterrupted, 0⟩, .request .closeConn]) := by decide
theorem test_timeout : (after (.stream 0x200) (inCycle Config.default .seen 0)).map (fun s => (s.phase, s.out)) =
    some (.idle, [.response ⟨.errTimeout, 0⟩, .request .closeConn]) := by decide
theorem test_reservedSym : (after (.stream 0x300) (inCycle Config.default .fill 0)).map (fun s => (s.phase, s.out)) =
    some (.idle, [.response ⟨.errIo, 0⟩, .request .closeConn]) := by decide
theorem test_connOk : (after (.connResponse 0b01) (inCycle Config.default .connect 0)).map (fun s => (s.phase, s.out)) =
    some (.hunt, []) := by decide
-- 2.8 row 2: no CLOSE in CONNECT.
theorem test_connFail : (after (.connResponse 0b10) (inCycle Config.default .connect 0)).map (fun s => (s.phase, s.out)) =
    some (.idle, [.response ⟨.errIo, 0⟩]) := by decide
theorem test_connReserved00 : (after (.connResponse 0b00) (inCycle Config.default .connect 0)).map (fun s => (s.phase, s.out)) =
    some (.idle, [.response ⟨.errIo, 0⟩]) := by decide
theorem test_connReserved11 : (after (.connResponse 0b11) (inCycle Config.default .connect 0)).map (fun s => (s.phase, s.out)) =
    some (.idle, [.response ⟨.errIo, 0⟩]) := by decide
-- 2.12 row 7, with the collaborator's next symbol still on offer before the pulse.
theorem test_reset : (nextOf (step { filling Config.default [] 1 with inputs := [.reset, .stream 0x00E, .command 0] })).map
    (fun s => (s.phase, s.snapValid, s.lastPollValid, s.inputs, s.out)) = some (.idle, false, false, [.command 0], []) := by decide
theorem test_reqOpen : (nextOf (exec .reqOpen State.reset)).map (fun s => (s.conn, s.out)) =
    some (.opening, [.request (.openConn "" 10001)]) := by decide
theorem test_reqClose : (nextOf (exec .reqClose { inCycle Config.default .hunt 0 with inputs := [.stream 0x042, .reset] })).map
    (fun s => (s.conn, s.inputs, s.out)) = some (.closed, [.reset], [.request .closeConn]) := by decide

-- 2.12, readiness: a byte offered in IDLE takes no step and stays on offer while a command is taken.
theorem test_step_no_event : (match step (State.reset.offer (.stream 0x00E)) with | .refused .noEvent => true | _ => false) = true := by decide
theorem test_step_leaves_unready_offer : (nextOf (step { State.reset with inputs := [.stream 0x00E, .command 0] })).map (·.inputs) =
    some [.stream 0x00E] := by decide
theorem test_withFetchWord : (nextOf (step (State.reset.withFetchWord 16 0x00E))).map (·.phase) = some .seen := by decide

/-! ### Witnesses: a state and operands that meet the hypotheses of each statement -/

/-- StepKeepsInv: a state of a fill that meets the invariants. -/
theorem witness_inv_fill : (filling (cfgCap 2) [(0, 1)] 15).Inv :=
  ⟨by decide, by decide, by decide, by decide, by decide, by decide, by decide, by decide,
    fun _ h => by simp [filling, inCycle, State.resetWith], by decide, by decide⟩

/-- DecodeOfEncode, at the widest operand. -/
theorem witness_decodeOfEncode : (Instr.update 255).wellFormed 8 = true ∧ (Instr.update 255).inPhase .idle = true := by decide

/-- EncodeOfDecode, at the widest word. -/
theorem witness_encodeOfDecode : (Transfer.command 0xFFF).fits 8 = true ∧ decode 8 .idle (.command 0xFFF) = .ok (.reservedCToF 3 255) := by decide

/-- StepRunsDecodedInstr, with an unready offer before the event. -/
theorem witness_stepRunsDecodedInstr :
    ({ State.reset with inputs := [.stream 0, .reset] } : State).inputs = [.stream 0] ++ Transfer.reset :: [] ∧
    (∀ u ∈ [Transfer.stream 0], Port.ready State.reset.phase u.port = false) ∧
    Port.ready State.reset.phase Transfer.reset.port = true ∧ decode 64 .idle .reset = .ok .reset := by decide

/-- PortReadinessGovernsSteps: no step; a step that keeps the other offers; a step that closes. -/
theorem witness_portReadiness :
    (∀ t ∈ [Transfer.stream 0x00E], Port.ready .idle t.port = false) ∧
    (nextOf (step { State.reset with inputs := [.command 0, .command 1] })).map (fun s => (s.inputs, s.out)) =
      some ([.command 1], [.response ⟨.errIllegalCmd, 0⟩]) ∧
    (nextOf (step { inCycle Config.default .hunt 0 with inputs := [.stream 0x100, .stream 0, .command 1] })).map (·.inputs) =
      some [.command 1] := by decide

/-- ReadyEventsAreStepped, at the greatest count. -/
theorem witness_readyEvents : (15 : Nat) < Config.default.n ∧
    ∃ t ∈ [Transfer.stream 0], Port.ready (filling Config.default [] 15).phase t.port = true := by decide

/-- EveryInstrCompletesInItsPhases, at the greatest count. -/
theorem witness_everyInstrCompletes : (Instr.byteFill 0).inPhase (filling Config.default [] 15).phase = true ∧
    (filling Config.default [] 15).cnt.toNat < (filling Config.default [] 15).cfg.n := by decide

/-- EventsOutsideTheirPhaseTakeNoStep. -/
theorem witness_eventsOutside : (Instr.byteSeen 0).inPhase (inCycle Config.default .hunt 0).phase = false := by decide

/-- FaultsExactlyOutsideTheBuffer: a step at the greatest count inside, and a fault at the least count outside. -/
theorem witness_faultsOutside :
    ((filling Config.default [] 15).phase = .fill ∧ (filling Config.default [] 15).cnt.toNat < (filling Config.default [] 15).cfg.n ∧
      (after (.stream 0) (filling Config.default [] 15)).isSome = true) ∧
    ((filling Config.default [] 16).phase = .fill ∧
      (filling Config.default [] 16).cfg.n ≤ (filling Config.default [] 16).cnt.toNat) ∧
    (Config.default.variant = .a ∧ cfgB.variant = .b) := by decide

/-- AtMostOneResponsePerStep and OnlyOkUpdatedComesWithCommit: a step with OK_UPDATED in each variant, from a buffer in its form,
and a step with another response. -/
theorem witness_responses :
    (filling Config.default frameA 15).buf.wf 16 = true ∧ (filling cfgB frameB 53).buf.wf 54 = true ∧
    (after (.stream 0x000) (filling cfgB frameB 53)).map (fun s => decide (.response ⟨.okUpdated, 0⟩ ∈ s.out)) = some true ∧
    (after (.stream 0x0FF) (filling Config.default frameA 15)).map (fun s => decide (.response ⟨.okUpdated, 0⟩ ∈ s.out)) = some true ∧
    (after (.command 0) State.reset).map (fun s => decide (.response ⟨.errIllegalCmd, 0⟩ ∈ s.out)) = some true := by decide

/-- ReservedOpcodesAreIllegal: its opcode clause at the last reserved op and at one that is not. -/
theorem witness_reservedOpcodes : (15 < 16 ∧ 12 ≤ 15 ∧ 255 < 2 ^ 8) ∧ (11 < 16 ∧ ¬ (11 = 0 ∨ 12 ≤ 11)) := by decide

/-- UpdateWithinCooldownSkips and EndedCycleKeepsItsCooldown: the last tick of the cooldown. -/
theorem witness_tooSoon : (inCycle Config.default .hunt 100).pollTooSoon 109 := by
  refine ⟨rfl, ?_⟩; decide

/-- UpdateInIdleStartsCycle: the first tick after the cooldown. -/
theorem witness_passes_idle : 110 < 2 ^ (inCycle Config.default .idle 100).cfg.timeW ∧ ¬ (inCycle Config.default .idle 100).pollTooSoon 110 ∧ (inCycle Config.default .idle 100).phase = .idle := by
  refine ⟨by decide, fun h => ?_, rfl⟩
  exact absurd h.2 (by decide)

/-- UpdateInCyclePreempts: the same, in a cycle. -/
theorem witness_passes_cycle : 110 < 2 ^ (inCycle Config.default .fill 100).cfg.timeW ∧ ¬ (inCycle Config.default .fill 100).pollTooSoon 110 ∧ (inCycle Config.default .fill 100).phase ≠ .idle := by
  refine ⟨by decide, fun h => ?_, by decide⟩
  exact absurd h.2 (by decide)

/-- GateBoundaryIsTheCooldown: across the wrap (R181's example), where the sum is exactly `2^P_TIME_W`, and at the last value of
last_poll_time, in IDLE and in a cycle. -/
theorem witness_gateBoundary : ∀ s ∈ [inCycle cfg8 .idle 250, inCycle cfg8 .hunt 246, inCycle cfg8 .idle 255, inCycle cfgB .idle 0],
    s.lastPollValid = true ∧ s.lastPollTime < 2 ^ s.cfg.timeW ∧ s.cfg.cooldownTicks < 2 ^ s.cfg.timeW ∧
      0 < s.cfg.cooldownTicks := by decide

/-- FirstUpdateAfterResetPasses, at the widest `now`. -/
theorem witness_firstUpdate : 255 < 2 ^ (State.resetWith cfg8).cfg.timeW := by decide

/-- PollTimeWrittenOnlyByGate, SnapshotWrittenOnlyByCommit, ConfigurationNeverChanges, VariantANeverWritesAux: an instruction
other than RESET that completes in Variant A, an UPDATE that passes the gate and one that does not. -/
theorem witness_completes : (nextOf (exec (.update 109) (inCycle Config.default .idle 100))).isSome = true ∧ (nextOf (exec (.update 110) (inCycle Config.default .idle 100))).isSome = true ∧
    Instr.update 110 ≠ .reset ∧ (inCycle Config.default .idle 100).cfg.variant = .a := by decide

/-- EndedCycleKeepsItsCooldown: a cycle that ends. -/
theorem witness_endedCycle : (inCycle Config.default .hunt 100).phase ≠ .idle ∧
    (nextOf (exec (.eof 0) (inCycle Config.default .hunt 100))).map (·.phase) = some .idle ∧ Instr.eof 0 ≠ .reset := by decide

/-- ConnOkStartsHunt and ConnFailuresEndCycle. -/
theorem witness_connect : (inCycle Config.default .connect 0).phase = .connect ∧
    Instr.connReserved11 ∈ [Instr.connFail, .connReserved00, .connReserved11] := by decide

/-- ByteInHuntMatchesFirstMarkerByte, ByteInSeenMatchesSecondMarkerByte, StreamEndSymbolsEndCycle. -/
theorem witness_stream : (inCycle Config.default .hunt 0).phase = .hunt ∧ (inCycle cfgRe .seen 0).phase = .seen ∧
    (filling Config.default [] 15).phase = .fill := by decide

/-- SynchronizerIsEnteredOnlyThere, from a buffer in its form: HUNT entered from CONNECT and from FILL, SEEN from HUNT and again from SEEN, FILL from SEEN. -/
theorem witness_synchronizerEntered :
    (filling Config.default frameA 15).buf.wf 16 = true ∧
    (nextOf (exec .connOk (inCycle Config.default .connect 0))).map (·.phase) = some .hunt ∧
    (nextOf (exec (.byteFill 0) (filling Config.default frameA 15))).map (·.phase) = some .hunt ∧
    (nextOf (exec (.byteHunt 0x0E) (inCycle Config.default .hunt 0))).map (·.phase) = some .seen ∧
    (nextOf (exec (.byteSeen 0x0E) (inCycle cfgRe .seen 0))).map (·.phase) = some .seen ∧
    (nextOf (exec (.byteSeen 0xFF) (inCycle Config.default .seen 0))).map (·.phase) = some .fill := by decide

/-- NoiseBeforeMarkerHasNoEffect: noise that ends in HUNT, and noise that ends in SEEN (E1 row 4); neither reaches FILL. -/
theorem witness_noise :
    (nextOf (feed [0x42, 0x0E, 0x00, 0xFF] (inCycle Config.default .hunt 0))).map (·.phase) = some .hunt ∧
    (nextOf (feed [0x01, 0x0E] (inCycle Config.default .hunt 0))).map (·.phase) = some .seen ∧
    (nextOf (feed [0x01] (inCycle Config.default .hunt 0))).map (·.phase) = some .hunt ∧
    [0x42, 0x0E, 0x00, (0xFF : Byte)].getLast? ≠ some 0x0E := by decide

/-- NoiseBeforeMarkerHasNoEffect's hypotheses together, for noise that ends in SEEN under `P_SYNC_REEXAMINE` = 1. -/
theorem witness_noise_avoids_fill : ∀ pre post t, [(0x0E : Byte)] = pre ++ post →
    feed pre (inCycle cfgRe .hunt 0) = .next t → t.phase ≠ .fill := by
  intro pre post t h hf
  match pre with
  | [] => injection hf with hf; subst hf; decide
  | [b] =>
    simp only [List.cons_append, List.nil_append, List.cons.injEq] at h
    obtain ⟨rfl, -⟩ := h
    injection hf with hf; subst hf; decide
  | b :: c :: bs => simp at h

/-- FillStoresOneByte, at the last byte but one. -/
theorem witness_fillStores : let s := filling Config.default frameA 14
    s.phase = .fill ∧ s.cnt.toNat + 1 < s.cfg.n ∧ s.buf.wf s.cfg.n = true := by decide

/-- ValidFrameACommits. -/
theorem witness_validFrameA : let s := filling Config.default frameA 15
    s.cfg.variant = .a ∧ s.phase = .fill ∧ s.cnt = 15 ∧ s.buf.wf 16 = true ∧ s.buf.read 14 = 0x0D := by decide

/-- InvalidFrameAResynchronizes: no cap, a cap not reached, a cap reached. -/
theorem witness_invalidFrameA :
    (let s := filling Config.default frameA 15
     s.cfg.variant = .a ∧ s.phase = .fill ∧ s.cnt = 15 ∧ s.buf.wf 16 = true ∧
       ¬ (s.buf.read 14 = 0x0D ∧ (0xFE : Byte) = 0xFF) ∧ s.cfg.maxResync = none) ∧
    ((filling (cfgCap 1) frameA 15).cfg.maxResync = some 1 ∧ (filling (cfgCap 1) frameA 15).resyncCnt ≠ 1) ∧
    ((filling (cfgCap 0) frameA 15).cfg.maxResync = some 0 ∧ (filling (cfgCap 0) frameA 15).resyncCnt = 0) := by decide

/-- EveryFrameBCommits. -/
theorem witness_frameB : let s := filling cfgB frameB 53
    s.cfg.variant = .b ∧ s.phase = .fill ∧ s.cnt = 53 ∧ s.buf.wf 54 = true := by decide

/-- StreamedFrameADecodes: the frame of E6. -/
theorem witness_streamedA : let s := inCycle Config.default .hunt 0
    let f : List Byte := [0x00, 0x96, 0x32, 0x50, 0x03, 0, 0, 0, 0, 0, 0, 0, 0, 0, 0x0D, 0xFF]
    s.cfg.variant = .a ∧ s.phase = .hunt ∧ s.buf.wf 16 = true ∧ f.length = 16 ∧ f.getD 14 0 = 0x0D ∧ f.getD 15 0 = 0xFF := by decide

/-- StreamedInvalidFrameAIsDiscarded: the frame of E2 row 3; no cap, a cap not reached, a cap reached. -/
theorem witness_streamedInvalidA : let s := inCycle Config.default .hunt 0
    let f : List Byte := [0x00, 0x64, 0x01, 0x02, 0x00, 0, 0, 0, 0, 0, 0, 0, 0, 0, 0x0D, 0x00]
    s.cfg.variant = .a ∧ s.cfg.maxResync = none ∧ s.phase = .hunt ∧ s.cnt = 0 ∧ s.buf.wf 16 = true ∧ f.length = 16 ∧
      ¬ (f.getD 14 0 = 0x0D ∧ f.getD 15 0 = 0xFF) ∧
      ((inCycle (cfgCap 1) .hunt 0).cfg.maxResync = some 1 ∧ (inCycle (cfgCap 1) .hunt 0).resyncCnt ≠ 1) ∧
      ((inCycle (cfgCap 0) .hunt 0).cfg.maxResync = some 0 ∧ (inCycle (cfgCap 0) .hunt 0).resyncCnt = 0) := by decide

/-- StreamedFrameBDecodes: 54 bytes of 0xFF (95_test_vectors.md 2.2). -/
theorem witness_streamedB : let s := inCycle cfgB .hunt 0
    s.cfg.variant = .b ∧ s.phase = .hunt ∧ s.buf.wf 54 = true ∧ (List.replicate 54 (0xFF : Byte)).length = 54 := by decide

/-- StepKeepsInv: a step from that state. -/
theorem witness_stepKeepsInv : (after (.stream 0) (filling (cfgCap 2) [(0, 1)] 15)).isSome = true := by decide

/-- The state right after reset with some unspecified contents and the event `UPDATE 0` on offer. -/
def drawn (time : Ticks) (byte : Byte) : State :=
  { State.reset with lastPollTime := time, buf := [(7, byte)], inputs := [.command 0x10000000000000000] }

theorem witness_hostEquiv_inv : (drawn 5 1).Inv ∧ (drawn 6 2).Inv :=
  ⟨⟨by decide, by decide, by decide, by decide, by decide, by decide, by decide, by decide, fun _ h => by injection h,
      by decide, by decide⟩,
    ⟨by decide, by decide, by decide, by decide, by decide, by decide, by decide, by decide, fun _ h => by injection h,
      by decide, by decide⟩⟩

/-- UnobservableStateHasNoEffect: two states after reset with other unspecified contents, and a step. -/
theorem witness_hostEquiv : (drawn 5 1).HostEquiv (drawn 6 2) ∧ (nextOf (step (drawn 5 1))).map (·.phase) = some .connect :=
  ⟨⟨rfl, rfl, rfl, rfl, rfl, fun h => by injection h, fun h => by injection h, rfl, rfl, rfl, rfl, rfl, rfl, rfl⟩, by decide⟩

/-- TableWordRunsNext. -/
theorem witness_tableWord : decodeTableWord 16 0x3FF = some (.reservedSym 0xFF) := by decide

end Sys2Proof.Tests
end

/-! SUPPORT. Proofs of the statements about the whole block (spec/00_scope.md): the step and the decoder, what one instruction
may emit, the configuration, and the boundary of the poll gate. -/

namespace Sys2Proof.Machine

/-! ### Running the event taken -/

/-- `step` runs what the transfer taken decodes to, on the state that has consumed it. -/
theorem step_of_takeReady {s : State} {t : Transfer} {rest : List Transfer} {i : Instr}
    (ht : takeReady s.phase s.inputs = some (t, rest)) (hd : decode s.cfg.timeW s.phase t = .ok i) :
    step s = exec i (s.consume rest) := by
  simp only [step, ht, hd]

/-- Settles O4: the transfer after a prefix of unready offers is the one `takeReady` finds. -/
theorem stepRunsDecodedInstr : Obligations.StepRunsDecodedInstr := by
  intro s pre post t i hin hpre ht hd
  have htaken : takeReady s.phase s.inputs = some (t, pre ++ post) := hin ▸ takeReady_append ht hpre
  exact step_of_takeReady htaken hd

/-! ### The configuration -/

/-- No effect of an instruction touches the configuration (R7, R36). -/
theorem Effect.cfg_eq {s t : State} {i : Instr} (h : Effect s i t) : t.cfg = s.cfg := by
  cases h with
  | answer | start | preempt => rfl
  | huntMatch | huntDiscard | seenMatch | seenAgain | seenDiscard | fillMore => rfl
  | fillValid b => exact State.completeValid_cfg _ (s.storeByte b).buf
  | fillResync b => exact State.resync_cfg (s.storeByte b).clearCnt
  | fillLimit b => exact State.raiseError_cfg (s.storeByte b).clearCnt _
  | streamEnd | connFail => exact State.raiseError_cfg s _
  | connOk | reset | reqOpen | reqClose => rfl

/-- Settles O44, over the effects of `exec`. -/
theorem configurationNeverChanges : Obligations.ConfigurationNeverChanges :=
  fun _ _ _ h => (exec_effect h).cfg_eq

/-! ### What one instruction emits -/

/-- The most that one instruction emits, in its order: a response, then CLOSE, then OPEN (R163). -/
def fullEmission (c : Config) (r : Response) : List Output :=
  [.response r, .request .closeConn, .request (.openConn c.host c.port)]

/-- From `s` to `t` the outputs grow by parts of a full emission, in its order. -/
def Emits (s t : State) : Prop := ∃ r es, t.out = s.out ++ es ∧ es.Sublist (fullEmission s.cfg r)

theorem emits_of_out_eq {s t : State} (h : t.out = s.out) : Emits s t :=
  ⟨⟨.okData, 0⟩, [], by simp [h], List.nil_sublist _⟩

/-- `raise E` emits its response, and CLOSE after it outside CONNECT (R205). -/
theorem emits_raiseError (e : CycleError) (s : State) : Emits s (s.raiseError e) := by
  rcases raiseError_cases e s with ⟨_, he⟩ | ⟨_, he⟩
  · exact ⟨⟨e.status, 0⟩, [_], by rw [he]; rfl, by simp [fullEmission]⟩
  · exact ⟨⟨e.status, 0⟩, [.response ⟨e.status, 0⟩, .request .closeConn], by simp [he], by simp [fullEmission]⟩

/-- Every instruction emits parts of a full emission (R11, R76, R163). -/
theorem Effect.emits {s t : State} {i : Instr} (h : Effect s i t) : Emits s t := by
  cases h with
  | answer _ c d => exact ⟨⟨c, d⟩, [_], rfl, by simp [fullEmission]⟩
  | start => exact ⟨⟨.okData, 0⟩, [_], rfl, by simp [fullEmission]⟩
  | preempt => exact ⟨⟨.errAborted, 0⟩, fullEmission s.cfg _, by simp [fullEmission], List.Sublist.refl _⟩
  | huntMatch | huntDiscard | seenMatch | seenAgain | seenDiscard | fillMore => exact emits_of_out_eq rfl
  | fillValid b =>
    exact ⟨⟨.okUpdated, 0⟩, [.response ⟨.okUpdated, 0⟩, .request .closeConn], by simp, by simp [fullEmission]⟩
  | fillResync b => exact emits_of_out_eq (State.resync_out (s.storeByte b).clearCnt)
  | fillLimit b => exact emits_raiseError _ (s.storeByte b).clearCnt
  | streamEnd | connFail => exact emits_raiseError _ s
  | connOk | reset => exact emits_of_out_eq rfl
  | reqOpen => exact ⟨⟨.okData, 0⟩, [_], rfl, by simp [fullEmission]⟩
  | reqClose => exact ⟨⟨.okData, 0⟩, [_], rfl, by simp [fullEmission]⟩

/-- What a step leaves in `out` is part of a full emission, since it starts from no outputs. -/
theorem step_out_sublist {s s' : State} (h : step s = .next s') : ∃ r, s'.out.Sublist (fullEmission s.cfg r) := by
  obtain ⟨t, rest, i, _, _, hexec⟩ := step_next h
  obtain ⟨r, es, hout, hsub⟩ := (exec_effect hexec).emits
  rw [State.consume_out, List.nil_append] at hout
  exact ⟨r, hout ▸ hsub⟩

/-- Settles O10: the bounds hold of a full emission and pass to its sublists. -/
theorem atMostOneResponsePerStep : Obligations.AtMostOneResponsePerStep := by
  intro s s' h
  obtain ⟨r, hsub⟩ := step_out_sublist h
  refine ⟨?responses, ?closes, ?opens, ?target⟩
  case responses => exact (hsub.filter Output.isResponse).length_le
  case closes => simpa [fullEmission] using hsub.count_le (.request .closeConn)
  case opens => simpa [fullEmission] using hsub.count_le (.request (.openConn s.cfg.host s.cfg.port))
  case target =>
    intro host port hmem
    simpa [fullEmission] using hsub.subset hmem

/-! ### The boundary of the poll gate -/

/-- The time elapsed at `d` ticks after `last_poll_time` is `d`, across the wrap as well (R181). -/
theorem elapsed_add {s : State} {d : Nat} (hd : d < 2 ^ s.cfg.timeW) :
    s.elapsed ((s.lastPollTime + d) % 2 ^ s.cfg.timeW) = d := by
  have hnow : BitVec.ofNat s.cfg.timeW ((s.lastPollTime + d) % 2 ^ s.cfg.timeW) =
      BitVec.ofNat s.cfg.timeW d + BitVec.ofNat s.cfg.timeW s.lastPollTime := by
    apply BitVec.eq_of_toNat_eq
    simp [Nat.add_comm]
  rw [State.elapsed, hnow, BitVec.add_sub_cancel, BitVec.toNat_ofNat, Nat.mod_eq_of_lt hd]

/-- After a poll, the gate holds back an UPDATE `d` ticks later exactly where `d` is below the cooldown (R160). -/
theorem withinCooldown_add {s : State} {d : Nat} (hv : s.lastPollValid = true) (hd : d < 2 ^ s.cfg.timeW) :
    s.withinCooldown ((s.lastPollTime + d) % 2 ^ s.cfg.timeW) = decide (d < s.cfg.cooldownTicks) := by
  rw [State.withinCooldown, hv, elapsed_add hd, Bool.true_and]

/-- An UPDATE within the cooldown answers OK_SKIPPED and does nothing else (R161). -/
theorem execUpdate_of_withinCooldown {now : Ticks} {s : State} (h : s.withinCooldown now = true) :
    execUpdate now s = .next (s.respond .okSkipped 0) := by
  simp [execUpdate, h]

/-- An UPDATE that passes the gate starts a cycle, on the state itself in IDLE and on the aborted one elsewhere (R162, R163). -/
theorem execUpdate_of_gatePassed {now : Ticks} {s : State} (h : s.withinCooldown now = false) :
    ∃ u, execUpdate now s = .next (State.startCycle now u) ∧ u.cfg = s.cfg := by
  rcases execUpdate_cases now s with ⟨hw, _⟩ | ⟨_, _, he⟩ | ⟨_, _, he⟩
  · simp [h] at hw
  · exact ⟨s, he, rfl⟩
  · exact ⟨s.abortCycle, he, rfl⟩

/-- Settles O16: the gate compares exactly the ticks added to `last_poll_time` with the cooldown. -/
theorem gateBoundaryIsTheCooldown : Obligations.GateBoundaryIsTheCooldown := by
  intro s hv _ hc
  refine ⟨?passes, ?skips⟩
  case passes =>
    obtain ⟨u, hexec, hcfg⟩ := execUpdate_of_gatePassed (s := s)
      (now := (s.lastPollTime + s.cfg.cooldownTicks) % 2 ^ s.cfg.timeW) (by simp [withinCooldown_add hv hc])
    exact ⟨_, hexec, rfl, rfl, by simp [hcfg]⟩
  case skips =>
    intro hpos
    rw [Nat.add_sub_assoc hpos]
    refine execUpdate_of_withinCooldown ?_
    rw [withinCooldown_add hv (by omega)]
    exact decide_eq_true (by omega)

end Sys2Proof.Machine

/-! SUPPORT. Proofs of the statements about the state (spec/10_state.md): the reset values, the invariants of R41 and what keeps
them, the writers of the registers, the faults, and the state that no output can depend on. -/

namespace Sys2Proof.Machine

/-! ### The size of the frame buffer (R7, R23) -/

/-- Variant A's buffer is 16 bytes. -/
theorem n_of_variantA {c : Config} (h : c.variant = .a) : c.n = 16 := by
  simp [Config.n, Config.frameLen, h]

/-- Variant B's buffer is 54 bytes. -/
theorem n_of_variantB {c : Config} (h : c.variant = .b) : c.n = 54 := by
  simp [Config.n, Config.frameLen, h]

theorem n_bounds (c : Config) : 0 < c.n ∧ c.n ≤ 54 := by
  cases hv : c.variant with
  | a => simp [n_of_variantA hv]
  | b => simp [n_of_variantB hv]

theorem n_pos (c : Config) : 0 < c.n := (n_bounds c).1

/-! ### Codes and reset -/

/-- Settles O34: a response's word is its status appended to its data. -/
theorem responseAndPhaseCodes : Obligations.ResponseAndPhaseCodes := by
  refine ⟨rfl, fun r => ?_, rfl⟩
  have hd := r.data.isLt
  rw [Response.word, BitVec.toNat_append, ← Nat.shiftLeft_add_eq_or_of_lt hd, Nat.shiftLeft_eq]
  omega

/-- The offers that a discard leaves are those of the other ports (R213). -/
theorem ofCollaborator_eq_false {p : Port} : p.ofCollaborator = false ↔ p ≠ .stream ∧ p ≠ .connResponse := by
  cases p <;> decide

theorem mem_withoutCollaborator_iff {u : Transfer} {ts : List Transfer} :
    u ∈ withoutCollaborator ts ↔ u ∈ ts ∧ u.port ≠ .stream ∧ u.port ≠ .connResponse := by
  rw [mem_withoutCollaborator, ofCollaborator_eq_false]

/-- The time drawn at a RESET event is `P_TIME_W` bits (R25, R40). -/
theorem drawnTime_lt (timeW draw : Nat) : drawnTime timeW draw < 2 ^ timeW := BitVec.isLt _

/-- Settles O40: the state that RESET leaves, field by field. -/
theorem resetEventClearsTheBlock : Obligations.ResetEventClearsTheBlock := fun s =>
  ⟨s.resetEvent, rfl, rfl, drawnBuffer_wf _ _, drawnTime_lt _ _, fun _ => mem_withoutCollaborator_iff⟩

/-- Settles O41: the reset values are those written in `State.resetWith`. -/
theorem resetStateHasSpecValues : Obligations.ResetStateHasSpecValues :=
  ⟨fun _ => ⟨rfl, rfl, rfl, rfl, rfl, rfl, rfl, rfl, rfl, rfl⟩, Config.default, rfl⟩

/-! ### The invariants after each operation (R41) -/

/-- Variant B's temperature is a byte plus at most 255 (R41 (6), R143). -/
theorem offsetTemperature_le (v : Byte) (o : Bool) : (offsetTemperature v o).toNat ≤ 510 := by
  have hv := v.isLt
  cases o <;> simp [offsetTemperature, overflowOffset] <;> omega

section
variable {s : State}

/-- The invariants say nothing of the offers and the outputs. -/
theorem State.Inv.withPorts (h : s.Inv) (ts : List Transfer) (os : List Output) :
    State.Inv { s with inputs := ts, out := os } := { h with }

theorem State.Inv.consume (h : s.Inv) (rest : List Transfer) : (s.consume rest).Inv := h.withPorts _ _

theorem State.Inv.respond (h : s.Inv) (c : Status) (d : BitVec 16) : (s.respond c d).Inv := h.withPorts _ _

theorem State.Inv.clearCnt (h : s.Inv) : s.clearCnt.Inv :=
  { h with
    fillCount := fun _ => n_pos s.cfg
    countOutside := fun _ => rfl }

/-- A phase may be entered with the count 0, where the connection becomes that of the phase. -/
theorem State.Inv.enterPhase_withConn (h : s.Inv) {p : Phase} {c : Connection} (hcnt : s.cnt = 0)
    (hbusy : s.phase ≠ .idle) (hc : c = connectionIn p) : ((s.enterPhase p).withConn c).Inv :=
  { h with
    fillCount := fun _ => (congrArg BitVec.toNat hcnt).trans_lt (n_pos s.cfg)
    countOutside := fun _ => hcnt
    busyPolled := fun _ => h.busyPolled hbusy
    oneConnection := hc }

/-- A phase may be entered with the count 0 from one that has the same connection. -/
theorem State.Inv.enterPhase (h : s.Inv) {p : Phase} (hcnt : s.cnt = 0) (hbusy : s.phase ≠ .idle)
    (hc : connectionIn s.phase = connectionIn p) : (s.enterPhase p).Inv :=
  h.enterPhase_withConn hcnt hbusy (h.oneConnection.trans hc)

/-- IDLE may be entered from every phase where the connection is closed. -/
theorem State.Inv.closed_toIdle (h : s.Inv) : (s.withConn .closed).toIdle.Inv :=
  { h with
    fillCount := nofun
    countOutside := fun _ => rfl
    busyPolled := fun hp => absurd rfl hp
    oneConnection := rfl }

theorem State.Inv.requestClose_toIdle (h : s.Inv) : s.requestClose.toIdle.Inv :=
  h.closed_toIdle.withPorts _ _

theorem State.Inv.raiseError (h : s.Inv) (e : CycleError) : (s.raiseError e).Inv := by
  obtain ⟨_, he⟩ | ⟨_, he⟩ := raiseError_cases e s <;> rw [he]
  · exact (h.respond _ _).closed_toIdle
  · exact (h.respond _ _).requestClose_toIdle

theorem State.Inv.startCycle (h : s.Inv) {now : Ticks} (hnow : now < 2 ^ s.cfg.timeW) : (s.startCycle now).Inv :=
  { h with
    fillCount := nofun
    countOutside := fun _ => rfl
    busyPolled := fun _ => rfl
    oneConnection := rfl
    timeWidth := hnow
    resyncWithinCap := fun _ _ => Nat.zero_le _ }

/-- Aborting the cycle in progress first changes only the outputs and the offers left (R163). -/
theorem State.Inv.abortCycle_startCycle (h : s.Inv) {now : Ticks} (hnow : now < 2 ^ s.cfg.timeW) :
    (s.abortCycle.startCycle now).Inv := (h.startCycle hnow).withPorts _ _

theorem State.Inv.storeByte (h : s.Inv) {b : Byte} (hc : s.cnt.toNat < s.cfg.n) : (s.storeByte b).Inv :=
  { h with bufferForm := Memory.wf_write hc h.bufferForm }

/-- The count stays in range while the frame is not full; 6 bits hold it (R22). -/
theorem toNat_countByte_cnt (hc : s.cnt.toNat + 1 < s.cfg.n) : s.countByte.cnt.toNat = s.cnt.toNat + 1 := by
  obtain ⟨_, hn⟩ := n_bounds s.cfg
  rw [State.countByte_cnt, BitVec.toNat_add]
  exact Nat.mod_eq_of_lt (by simp; omega)

theorem State.Inv.countByte (h : s.Inv) (hp : s.phase = .fill) (hc : s.cnt.toNat + 1 < s.cfg.n) : s.countByte.Inv :=
  { h with
    fillCount := fun _ => (toNat_countByte_cnt hc).trans_lt hc
    countOutside := fun hp' => absurd hp hp' }

/-- A commit writes the decoded registers with their state code, and the Variant B registers only in Variant B (R151). -/
theorem State.Inv.commitFrame (h : s.Inv) (f : Memory) : (s.commitFrame f).Inv := by
  obtain ⟨hv, he⟩ | ⟨hv, he⟩ := commitFrame_cases f s <;> rw [he]
  · exact { h with
      noCommit := nofun
      temperatureBound := fun hb => absurd (hv.symm.trans hb) (by decide)
      stateOfRaw := rfl }
  · exact { h with
      noCommit := nofun
      temperatureBound := fun _ => offsetTemperature_le _ _
      stateOfRaw := rfl
      auxAbsent := fun ha => absurd (hv.symm.trans ha) (by decide) }

theorem State.Inv.completeValid (h : s.Inv) (f : Memory) : (s.completeValid f).Inv :=
  ((h.commitFrame f).respond _ _).requestClose_toIdle

theorem State.Inv.countResync (h : s.Inv) (hn : s.cfg.maxResync ≠ some s.resyncCnt) : s.countResync.Inv :=
  { h with
    resyncWithinCap := fun cap hcap =>
      Nat.lt_of_le_of_ne (h.resyncWithinCap cap hcap) fun he => hn (he ▸ hcap) }

/-- A resynchronization leads from FILL with the count cleared back to HUNT, on the same connection (R124). -/
theorem State.Inv.resync (h : s.Inv) (hp : s.phase = .fill) (hcnt : s.cnt = 0)
    (hn : s.cfg.maxResync ≠ some s.resyncCnt) : s.resync.Inv := by
  have hbusy : s.phase ≠ .idle := by simp [hp]
  have hconn : connectionIn s.phase = connectionIn .hunt := by rw [hp]; rfl
  obtain ⟨_, he⟩ | ⟨_, _, he⟩ := resync_cases s <;> rw [he]
  · exact h.enterPhase hcnt hbusy hconn
  · exact (h.countResync hn).enterPhase hcnt hbusy hconn

theorem State.Inv.resetEvent (h : s.Inv) : s.resetEvent.Inv :=
  { h with
    fillCount := nofun
    countOutside := fun _ => rfl
    noCommit := fun _ => ⟨rfl, rfl⟩
    busyPolled := fun hp => absurd rfl hp
    oneConnection := rfl
    temperatureBound := fun _ => Nat.zero_le _
    bufferForm := drawnBuffer_wf _ _
    timeWidth := drawnTime_lt _ _
    resyncWithinCap := fun _ _ => Nat.zero_le _
    stateOfRaw := rfl
    auxAbsent := fun _ => rfl }

end

/-- Settles O42: every register is 0, its status byte 0 has the state code 0, and the empty list is a canonical buffer. -/
theorem resetStateMeetsInv : Obligations.ResetStateMeetsInv := fun c =>
  { fillCount := nofun
    countOutside := fun _ => rfl
    noCommit := fun _ => ⟨rfl, rfl⟩
    busyPolled := fun hp => absurd rfl hp
    oneConnection := rfl
    temperatureBound := fun _ => Nat.zero_le _
    bufferForm := State.resetWith_buf_wf c
    timeWidth := Nat.two_pow_pos _
    resyncWithinCap := fun _ _ => Nat.zero_le _
    stateOfRaw := rfl
    auxAbsent := fun _ => rfl }

/-! ### The invariants after a step -/

/-- A host command decodes to an instruction of that port whose operand is the transfer's. -/
theorem decodeCommand_port_wellFormed {w x : Nat} (op : BitVec 4) (hx : x < 2 ^ w) :
    (encode w (decodeCommand op x)).port = .hostCommand ∧ (decodeCommand op x).wellFormed w = true := by
  have hfits : operandFits w x = true := decide_eq_true hx
  unfold decodeCommand
  split <;> exact ⟨rfl, hfits⟩

/-- What a transfer decodes to is a well-formed instruction of the transfer's port (R70, R72). -/
theorem decode_port_wellFormed {w : Nat} {p : Phase} {t : Transfer} {i : Instr} (h : decode w p t = .ok i) :
    (encode w i).port = t.port ∧ i.wellFormed w = true := by
  cases t with
  | command word =>
    cases h
    exact decodeCommand_port_wellFormed _ (commandOperand_lt w word)
  | stream sym =>
    simp only [decode, decodeStream] at h
    split at h
    · split at h
      · cases p <;> cases h <;> exact ⟨rfl, rfl⟩
      all_goals cases h; exact ⟨rfl, rfl⟩
    · cases h
  | connResponse crsp =>
    simp only [decode, decodeConnResponse] at h
    split at h
    · split at h <;> cases h <;> exact ⟨rfl, rfl⟩
    · cases h
  | reset => cases h; exact ⟨rfl, rfl⟩
  | connRequest req =>
    simp only [decode, decodeConnRequest] at h
    split at h <;> cases h <;> exact ⟨rfl, rfl⟩

/-- A well-formed instruction of a port that is ready keeps the invariants. The two output rows are of a port that never is. -/
theorem Effect.keepsInv {s t : State} {i : Instr} (h : Effect s i t) (hs : s.Inv)
    (hport : Port.ready s.phase (encode s.cfg.timeW i).port = true) (hwf : i.wellFormed s.cfg.timeW = true) : t.Inv := by
  have hcnt : ∀ {p}, s.phase = p → p ≠ .fill → s.cnt = 0 := fun hp hne => hs.countOutside (hp ▸ hne)
  have hmove : ∀ {p q}, s.phase = p → p ≠ .fill → p ≠ .idle → connectionIn p = connectionIn q →
      (s.enterPhase q).Inv := fun hp hfill hidle hconn =>
    hs.enterPhase (hcnt hp hfill) (hp ▸ hidle) (hp ▸ hconn)
  cases h with
  | answer _ c d => exact hs.respond c d
  | start => exact hs.startCycle (of_decide_eq_true hwf)
  | preempt => exact hs.abortCycle_startCycle (of_decide_eq_true hwf)
  | huntMatch hp | huntDiscard _ hp | seenAgain hp | seenDiscard _ hp =>
    exact hmove hp (by decide) (by decide) rfl
  | seenMatch hp => exact (hmove (q := .fill) hp (by decide) (by decide) rfl).clearCnt
  | fillMore b hp hc => exact (hs.storeByte (by omega)).countByte hp hc
  | fillValid b _ hc => exact (hs.storeByte (by omega)).clearCnt.completeValid _
  | fillResync b hp hc _ _ hn => exact (hs.storeByte (by omega)).clearCnt.resync hp rfl hn
  | fillLimit b _ hc => exact (hs.storeByte (by omega)).clearCnt.raiseError _
  | streamEnd | connFail => exact hs.raiseError _
  | connOk hp => exact hs.enterPhase_withConn (hcnt hp (by decide)) (by simp [hp]) rfl
  | reset => exact hs.resetEvent
  | reqOpen | reqClose => exact absurd hport Bool.false_ne_true

/-- Settles O43: a step runs a well-formed instruction of a ready port. -/
theorem stepKeepsInv : Obligations.StepKeepsInv := by
  intro s s' hs hstep
  obtain ⟨t, rest, i, ht, hi, hexec⟩ := step_next hstep
  obtain ⟨_, _, _, _, _, hready⟩ := takeReady_some ht
  obtain ⟨hport, hwf⟩ := decode_port_wellFormed hi
  exact (exec_effect hexec).keepsInv (hs.consume rest) (hport ▸ hready) hwf

/-! ### States that no output can tell apart (R39, R40) -/

/-- Two conditionals on equivalent conditions are related where their branches are. -/
theorem rel_ite {α β : Type} {R : α → β → Prop} {p q : Prop} [Decidable p] [Decidable q] {x x' : α} {y y' : β}
    (hpq : p ↔ q) (hthen : p → R x y) (helse : ¬ p → R x' y') : R (if p then x else x') (if q then y else y') := by
  by_cases hp : p
  · rw [if_pos hp, if_pos (hpq.mp hp)]
    exact hthen hp
  · rw [if_neg hp, if_neg (mt hpq.mpr hp)]
    exact helse hp

/-- Two frames hold the same bytes at the indices below `n`. -/
def AgreeBelow (n : Nat) (f g : Memory) : Prop := ∀ i, i < n → f.read i = g.read i

theorem AgreeBelow.endMarkerValid_eq {f g : Memory} (h : AgreeBelow 16 f g) : endMarkerValid f = endMarkerValid g := by
  rw [endMarkerValid, endMarkerValid, h endMarkerIndex1 (by decide), h endMarkerIndex2 (by decide)]

theorem AgreeBelow.decodeA_eq {f g : Memory} (h : AgreeBelow 16 f g) : decodeA f = decodeA g := by
  simp only [decodeA, h 0 (by decide), h 1 (by decide), h 2 (by decide), h 3 (by decide), h 4 (by decide)]

theorem AgreeBelow.decodeB_eq {f g : Memory} (h : AgreeBelow 54 f g) : decodeB f = decodeB g := by
  simp only [decodeB, h 1 (by decide), h 2 (by decide), h 3 (by decide), h 4 (by decide), h flagIndex (by decide)]

theorem AgreeBelow.decodeAux_eq {f g : Memory} (h : AgreeBelow 54 f g) : decodeAux f = decodeAux g := by
  simp only [decodeAux, h 34 (by decide), h 36 (by decide), h 37 (by decide), h 47 (by decide), h 50 (by decide)]

section
variable {s t : State}

/-! Each operation on two such states leaves two such states. -/

theorem State.HostEquiv.consume (h : s.HostEquiv t) (rest : List Transfer) : (s.consume rest).HostEquiv (t.consume rest) :=
  { h with inputs := rfl, out := rfl }

theorem State.HostEquiv.emit (h : s.HostEquiv t) (o : Output) : (s.emit o).HostEquiv (t.emit o) :=
  { h with out := congrArg (· ++ [o]) h.out }

theorem State.HostEquiv.respond (h : s.HostEquiv t) (c : Status) (d : BitVec 16) :
    (s.respond c d).HostEquiv (t.respond c d) := h.emit _

theorem State.HostEquiv.requestOpen (h : s.HostEquiv t) : s.requestOpen.HostEquiv t.requestOpen :=
  { h with
    conn := rfl
    out := by rw [State.requestOpen_out, State.requestOpen_out, h.out, h.cfg] }

theorem State.HostEquiv.requestClose (h : s.HostEquiv t) : s.requestClose.HostEquiv t.requestClose :=
  { h.emit (.request .closeConn) with
    conn := rfl
    inputs := congrArg withoutCollaborator h.inputs }

theorem State.HostEquiv.withConn (h : s.HostEquiv t) (c : Connection) : (s.withConn c).HostEquiv (t.withConn c) :=
  { h with conn := rfl }

theorem State.HostEquiv.enterPhase (h : s.HostEquiv t) {p : Phase} (hp : p ≠ .fill) :
    (s.enterPhase p).HostEquiv (t.enterPhase p) :=
  { h with
    phase := rfl
    buf := fun hfill => absurd hfill hp }

/-- With the count 0 no byte of the frame has been filled, so that the phase may be any. -/
theorem State.HostEquiv.enterPhase_clearCnt (h : s.HostEquiv t) (p : Phase) :
    (s.enterPhase p).clearCnt.HostEquiv (t.enterPhase p).clearCnt :=
  { h with
    phase := rfl
    cnt := rfl
    buf := fun _ i hi => absurd hi (Nat.not_lt_zero i) }

theorem State.HostEquiv.clearCnt (h : s.HostEquiv t) : s.clearCnt.HostEquiv t.clearCnt :=
  { h with
    cnt := rfl
    buf := fun _ i hi => absurd hi (Nat.not_lt_zero i) }

theorem State.HostEquiv.toIdle (h : s.HostEquiv t) : s.toIdle.HostEquiv t.toIdle := h.enterPhase_clearCnt .idle

theorem State.HostEquiv.raiseError (h : s.HostEquiv t) (e : CycleError) : (s.raiseError e).HostEquiv (t.raiseError e) := by
  have hresp := h.respond e.status 0
  have hclose : (s.respond e.status 0).closeUnlessConnect.HostEquiv (t.respond e.status 0).closeUnlessConnect :=
    rel_ite (by rw [hresp.phase]) (fun _ => hresp.withConn .closed) (fun _ => hresp.requestClose)
  exact hclose.toIdle

theorem State.HostEquiv.startCycle (h : s.HostEquiv t) (now : Ticks) : (s.startCycle now).HostEquiv (t.startCycle now) :=
  { h.requestOpen with
    phase := rfl
    cnt := rfl
    resyncCnt := rfl
    lastPollValid := rfl
    lastPollTime := fun _ => rfl
    buf := nofun }

theorem State.HostEquiv.abortCycle (h : s.HostEquiv t) : s.abortCycle.HostEquiv t.abortCycle :=
  (h.respond .errAborted 0).requestClose

/-- The gate reads `last_poll_time` only where `last_poll_valid` is 1 (R160). -/
theorem State.HostEquiv.withinCooldown_eq (h : s.HostEquiv t) (now : Ticks) : s.withinCooldown now = t.withinCooldown now := by
  unfold State.withinCooldown State.elapsed
  rw [← h.lastPollValid, ← h.cfg]
  cases hv : s.lastPollValid with
  | false => rfl
  | true => rw [h.lastPollTime hv]

theorem State.HostEquiv.commitShared (h : s.HostEquiv t) {r r' : Reading} (hr : r = r') :
    (s.commitShared r).HostEquiv (t.commitShared r') :=
  { h with snap := hr, snapValid := rfl }

theorem State.HostEquiv.commitAux (h : s.HostEquiv t) {a a' : AuxReading} (ha : a = a') :
    (s.commitAux a).HostEquiv (t.commitAux a') :=
  { h with aux := ha }

/-- The commit reads bytes of the frame only, all below `N` (R52, R141 to R144). -/
theorem State.HostEquiv.commitFrame (h : s.HostEquiv t) {f g : Memory} (hfg : AgreeBelow s.cfg.n f g) :
    (s.commitFrame f).HostEquiv (t.commitFrame g) := by
  unfold State.commitFrame
  rw [← h.cfg]
  cases hv : s.cfg.variant with
  | a =>
    rw [n_of_variantA hv] at hfg
    exact h.commitShared hfg.decodeA_eq
  | b =>
    rw [n_of_variantB hv] at hfg
    exact (h.commitShared hfg.decodeB_eq).commitAux hfg.decodeAux_eq

theorem State.HostEquiv.completeValid (h : s.HostEquiv t) {f g : Memory} (hfg : AgreeBelow s.cfg.n f g) :
    (s.completeValid f).HostEquiv (t.completeValid g) :=
  (((h.commitFrame hfg).respond .okUpdated 0).requestClose).toIdle

theorem State.HostEquiv.resync (h : s.HostEquiv t) : s.resync.HostEquiv t.resync := by
  unfold State.resync
  rw [← h.cfg]
  cases s.cfg.maxResync with
  | none => exact h.enterPhase (by decide)
  | some cap => exact { h.enterPhase (p := .hunt) (by decide) with resyncCnt := congrArg (· + 1) h.resyncCnt }

theorem State.HostEquiv.frameInvalid (h : s.HostEquiv t) : s.frameInvalid.HostEquiv t.frameInvalid :=
  rel_ite (by rw [resyncCapReached_iff, resyncCapReached_iff, h.cfg, h.resyncCnt])
    (fun _ => h.raiseError .resyncLimit) (fun _ => h.resync)

theorem State.HostEquiv.validateFrame (h : s.HostEquiv t) {f g : Memory} (hfg : AgreeBelow s.cfg.n f g) :
    (s.validateFrame f).HostEquiv (t.validateFrame g) := by
  unfold State.validateFrame
  rw [← h.cfg]
  cases hv : s.cfg.variant with
  | a =>
    have hend : endMarkerValid f = endMarkerValid g := (n_of_variantA hv ▸ hfg).endMarkerValid_eq
    exact rel_ite (by rw [hend]) (fun _ => h.completeValid hfg) (fun _ => h.frameInvalid)
  | b => exact h.completeValid hfg

/-- In FILL a byte stored at the count makes the two buffers agree up to and with it. -/
theorem State.HostEquiv.storeByte_agreeBelow (h : s.HostEquiv t) (b : Byte) (hp : s.phase = .fill)
    (hs : s.buf.wf s.cfg.n = true) (ht : t.buf.wf t.cfg.n = true) :
    AgreeBelow (s.cnt.toNat + 1) (s.storeByte b).buf (t.storeByte b).buf := by
  intro i hi
  rw [State.storeByte_buf, State.storeByte_buf, Memory.read_write hs, Memory.read_write ht, ← h.cnt]
  split
  · rfl
  · exact h.buf hp i (by omega)

theorem State.HostEquiv.storeByte_countByte (h : s.HostEquiv t) {b : Byte} (hc : s.cnt.toNat + 1 < s.cfg.n)
    (hbuf : AgreeBelow (s.cnt.toNat + 1) (s.storeByte b).buf (t.storeByte b).buf) :
    (s.storeByte b).countByte.HostEquiv (t.storeByte b).countByte :=
  { h with
    cnt := congrArg (· + 1) h.cnt
    buf := fun _ i hi => hbuf i (hi.trans_eq (toNat_countByte_cnt (s := s.storeByte b) hc)) }

theorem State.HostEquiv.storeByte_completeFrame (h : s.HostEquiv t) {b : Byte}
    (hbuf : AgreeBelow s.cfg.n (s.storeByte b).buf (t.storeByte b).buf) :
    (s.storeByte b).completeFrame.HostEquiv (t.storeByte b).completeFrame := by
  have hclear : (s.storeByte b).clearCnt.HostEquiv (t.storeByte b).clearCnt := { h.clearCnt with
    buf := fun _ i hi => absurd hi (Nat.not_lt_zero i) }
  exact hclear.validateFrame hbuf

theorem State.HostEquiv.sharedRead (h : s.HostEquiv t) {d e : BitVec 16} (hde : d = e) :
    (sharedRead d s).HostEquiv (sharedRead e t) :=
  rel_ite (by rw [h.snapValid]) (fun _ => hde ▸ h.respond .okData d) (fun _ => h.respond .errNoData 0)

theorem State.HostEquiv.variantBRead (h : s.HostEquiv t) {d e : BitVec 16} (hde : d = e) :
    (variantBRead d s).HostEquiv (variantBRead e t) := by
  unfold Machine.variantBRead
  rw [← h.cfg]
  cases s.cfg.variant with
  | a => exact h.respond .errNotPresent 0
  | b => exact h.sharedRead hde

/-- RESET draws its values by the width, the buffer's size and the draw number alone (R230). -/
theorem State.HostEquiv.resetEvent (h : s.HostEquiv t) : s.resetEvent.HostEquiv t.resetEvent :=
  { h with
    phase := rfl
    cnt := rfl
    resyncCnt := rfl
    lastPollValid := rfl
    lastPollTime := nofun
    buf := nofun
    snapValid := rfl
    snap := rfl
    aux := rfl
    inputs := congrArg withoutCollaborator h.inputs
    conn := rfl
    draws := congrArg (· + 1) h.draws }

end

/-! ### Instructions and steps on such states -/

/-- Two outcomes stop for the same reason, or lead to two states that no output can tell apart. -/
inductive OutcomeEquiv : Host.Outcome State Fault Refusal → Host.Outcome State Fault Refusal → Prop where
  | next {s t : State} (h : s.HostEquiv t) : OutcomeEquiv (.next s) (.next t)
  | fault (r : Fault) : OutcomeEquiv (.fault r) (.fault r)
  | refused (r : Refusal) : OutcomeEquiv (.refused r) (.refused r)

/-- Where the phase is not the row's, both states refuse the instruction. -/
theorem OutcomeEquiv.guard {s t : State} {p : Phase} {x y : Host.Outcome State Fault Refusal} (h : s.HostEquiv t)
    (hxy : s.phase = p → OutcomeEquiv x y) :
    OutcomeEquiv (if s.phase = p then x else .refused .eventNotAccepted)
      (if t.phase = p then y else .refused .eventNotAccepted) :=
  rel_ite (by rw [h.phase]) hxy (fun _ => .refused _)

section
variable {s t : State}

theorem execUpdate_equiv (h : s.HostEquiv t) (now : Ticks) : OutcomeEquiv (execUpdate now s) (execUpdate now t) :=
  rel_ite (by rw [h.withinCooldown_eq]) (fun _ => .next (h.respond .okSkipped 0)) fun _ =>
    rel_ite (by rw [h.phase]) (fun _ => .next (h.startCycle now)) (fun _ => .next (h.abortCycle.startCycle now))

theorem execByteHunt_equiv (h : s.HostEquiv t) (b : Byte) : OutcomeEquiv (execByteHunt b s) (execByteHunt b t) :=
  .guard h fun _ => rel_ite Iff.rfl (fun _ => .next (h.enterPhase (by decide))) (fun _ => .next (h.enterPhase (by decide)))

theorem execByteSeen_equiv (h : s.HostEquiv t) (b : Byte) : OutcomeEquiv (execByteSeen b s) (execByteSeen b t) :=
  .guard h fun _ => rel_ite Iff.rfl (fun _ => .next (h.enterPhase_clearCnt .fill)) fun _ =>
    rel_ite (by rw [h.cfg]) (fun _ => .next (h.enterPhase (by decide))) (fun _ => .next (h.enterPhase (by decide)))

/-- BYTE_FILL reads the buffer only when the frame is complete, and then every byte of it has been filled (R120, R127). -/
theorem execByteFill_equiv (h : s.HostEquiv t) (b : Byte) (hs : s.buf.wf s.cfg.n = true) (ht : t.buf.wf t.cfg.n = true) :
    OutcomeEquiv (execByteFill b s) (execByteFill b t) :=
  .guard h fun hp => by
    have hbuf := h.storeByte_agreeBelow b hp hs ht
    refine rel_ite (by rw [h.cnt, h.cfg]) (fun hlt => rel_ite (by rw [h.cnt, h.cfg]) ?more ?last) (fun _ => .fault _)
    case more => exact fun hc => .next (h.storeByte_countByte hc hbuf)
    case last =>
      intro hc
      have hn : s.cnt.toNat + 1 = s.cfg.n := by omega
      exact .next (h.storeByte_completeFrame (hn ▸ hbuf))

theorem streamError_equiv (h : s.HostEquiv t) (e : CycleError) : OutcomeEquiv (streamError e s) (streamError e t) :=
  rel_ite (by rw [h.phase]) (fun _ => .next (h.raiseError e)) (fun _ => .refused _)

theorem execConnOk_equiv (h : s.HostEquiv t) : OutcomeEquiv (execConnOk s) (execConnOk t) :=
  .guard h fun _ => .next ((h.enterPhase (by decide)).withConn .opened)

theorem connectFailed_equiv (h : s.HostEquiv t) : OutcomeEquiv (connectFailed s) (connectFailed t) :=
  .guard h fun _ => .next (h.raiseError .connectFailed)

/-- Every instruction does alike on two states that no output can tell apart. -/
theorem exec_equiv (h : s.HostEquiv t) (i : Instr) (hs : s.buf.wf s.cfg.n = true) (ht : t.buf.wf t.cfg.n = true) :
    OutcomeEquiv (exec i s) (exec i t) := by
  cases i with
  | reserved0 | reservedCToF => exact .next (h.respond .errIllegalCmd 0)
  | rdTemp | rdState | rdValveTarget | rdValveActual | rdValveTargetAttr => exact .next (h.sharedRead (by rw [h.snap]))
  | rdBufferLower | rdBufferUpper | rdFlow | rdChimney | rdFan => exact .next (h.variantBRead (by rw [h.aux]))
  | update now => exact execUpdate_equiv h now
  | byteHunt b => exact execByteHunt_equiv h b
  | byteSeen b => exact execByteSeen_equiv h b
  | byteFill b => exact execByteFill_equiv h b hs ht
  | eof | timeout | reservedSym => exact streamError_equiv h _
  | connOk => exact execConnOk_equiv h
  | connFail | connReserved00 | connReserved11 => exact connectFailed_equiv h
  | reset => exact .next h.resetEvent
  | reqOpen => exact .next h.requestOpen
  | reqClose => exact .next h.requestClose

/-- A step takes the same event in both states and runs the same instruction on it. -/
theorem step_equiv (h : s.HostEquiv t) (hs : s.buf.wf s.cfg.n = true) (ht : t.buf.wf t.cfg.n = true) :
    OutcomeEquiv (step s) (step t) := by
  unfold step
  rw [← h.phase, ← h.inputs, ← h.cfg]
  split
  · exact .refused _
  · split
    · exact exec_equiv (h.consume _) _ hs ht
    · exact .refused _

end

/-- Settles O46: the simulation of one step, in the case that it answers a next state. -/
theorem unobservableStateHasNoEffect : Obligations.UnobservableStateHasNoEffect := by
  intro s t s' hs ht h hstep
  have hequiv := step_equiv h hs.bufferForm ht.bufferForm
  rw [hstep] at hequiv
  generalize step t = o at hequiv
  cases hequiv with
  | next h' => exact ⟨_, rfl, h'⟩

/-! ### The writers of the snapshot (R34, R42) -/

/-- But for RESET, an instruction leaves the snapshot as it is, or it is the last byte of a frame and commits that frame. -/
theorem Effect.snapshot_frame {s t : State} {i : Instr} (h : Effect s i t) (hi : i ≠ .reset) :
    (t.snap = s.snap ∧ t.aux = s.aux ∧ t.snapValid = s.snapValid) ∨
      ∃ b, i = .byteFill b ∧ s.phase = .fill ∧ s.cnt.toNat + 1 = s.cfg.n ∧
        t = (s.storeByte b).clearCnt.completeValid (s.storeByte b).buf := by
  cases h with
  | fillValid b hp hc => exact .inr ⟨b, rfl, hp, hc, rfl⟩
  | reset => exact absurd rfl hi
  | start | preempt | fillResync | fillLimit | streamEnd | connFail => exact .inl (by simp)
  | _ => exact .inl ⟨rfl, rfl, rfl⟩

/-- Settles O38: the commit is part of a valid frame's completion, whose outputs and phase are those of R150. -/
theorem snapshotWrittenOnlyByCommit : Obligations.SnapshotWrittenOnlyByCommit := by
  intro i s t hexec hi
  obtain hsame | ⟨b, rfl, hp, hc, rfl⟩ := (exec_effect hexec).snapshot_frame hi
  · exact .inl hsame
  · exact .inr ⟨b, rfl, hp, hc, by simp⟩

/-- In Variant A a commit leaves the five Variant B registers (R34, R151). -/
theorem commitFrame_aux_of_variantA {s : State} (hv : s.cfg.variant = .a) (f : Memory) : (s.commitFrame f).aux = s.aux := by
  simp [State.commitFrame, hv]

/-- Settles O45: the one writer besides RESET is the commit, and Variant A's leaves them. -/
theorem variantANeverWritesAux : Obligations.VariantANeverWritesAux := by
  intro i s t hv hexec hi
  obtain ⟨_, haux, _⟩ | ⟨b, _, _, _, rfl⟩ := (exec_effect hexec).snapshot_frame hi
  · exact haux
  · rw [State.completeValid_aux, commitFrame_aux_of_variantA (by simpa using hv)]
    rfl

/-! ### The writers of the poll registers (R25, R26) -/

/-- The elapsed time is the difference on the integers, modulo `2^P_TIME_W` (R160, R181). -/
theorem elapsed_eq_emod (now : Ticks) (s : State) :
    (s.elapsed now : Int) = ((now : Int) - s.lastPollTime) % 2 ^ s.cfg.timeW := by
  have hdiff : BitVec.ofNat s.cfg.timeW now - BitVec.ofNat s.cfg.timeW s.lastPollTime =
      BitVec.ofInt s.cfg.timeW ((now : Int) - s.lastPollTime) := by
    rw [Int.sub_eq_add_neg, BitVec.ofInt_add, BitVec.ofInt_neg, BitVec.ofInt_natCast, BitVec.ofInt_natCast,
      BitVec.sub_eq_add_neg]
  have hnonneg := Int.emod_nonneg ((now : Int) - s.lastPollTime) (b := 2 ^ s.cfg.timeW) (by positivity)
  rw [State.elapsed, hdiff, BitVec.toNat_ofInt, Nat.cast_pow, Nat.cast_ofNat, Int.toNat_of_nonneg hnonneg]

/-- The cooldown in ticks, by variant (R7). -/
theorem cooldownTicks_eq (c : Config) :
    (c.cooldownTicks : Int) = (if c.variant = .a then 10 else 30) * (c.ticksPerS : Int) := by
  cases hv : c.variant <;> simp [Config.cooldownTicks, Config.cooldownS, hv]

/-- The gate holds back exactly the UPDATEs that are too soon in exact arithmetic (R160). -/
theorem withinCooldown_iff_pollTooSoon (now : Ticks) (s : State) : s.withinCooldown now = true ↔ s.pollTooSoon now := by
  rw [State.withinCooldown, Bool.and_eq_true, decide_eq_true_eq, State.pollTooSoon, ← elapsed_eq_emod,
    ← cooldownTicks_eq, Nat.cast_lt]

/-- No instruction but UPDATE and RESET touches the poll registers (R25, R26, R179). -/
theorem Effect.pollRegs_eq {s t : State} {i : Instr} (h : Effect s i t) (hreset : i ≠ .reset)
    (hupdate : ∀ now, i ≠ .update now) : t.lastPollTime = s.lastPollTime ∧ t.lastPollValid = s.lastPollValid := by
  cases h with
  | start now | preempt now => exact absurd rfl (hupdate now)
  | reset => exact absurd rfl hreset
  | fillValid | fillResync | fillLimit | streamEnd | connFail => simp
  | _ => exact ⟨rfl, rfl⟩

/-- An UPDATE writes the poll registers exactly where it passes the gate (R161 to R163). -/
theorem execUpdate_pollRegs {now : Ticks} {s t : State} (h : execUpdate now s = .next t) :
    (¬ s.pollTooSoon now ∧ t.lastPollTime = now ∧ t.lastPollValid = true) ∨
      (s.pollTooSoon now ∧ t.lastPollTime = s.lastPollTime ∧ t.lastPollValid = s.lastPollValid) := by
  rw [← withinCooldown_iff_pollTooSoon]
  obtain ⟨hw, he⟩ | ⟨hw, _, he⟩ | ⟨hw, _, he⟩ := execUpdate_cases now s <;> cases he.symm.trans h
  · exact .inr ⟨hw, rfl, rfl⟩
  · exact .inl ⟨by simp [hw], rfl, rfl⟩
  · exact .inl ⟨by simp [hw], rfl, rfl⟩

/-- Settles O18: UPDATE by the gate's test, every other instruction by the frame of its effect. -/
theorem pollTimeWrittenOnlyByGate : Obligations.PollTimeWrittenOnlyByGate := by
  intro i s t hexec hreset
  by_cases hupdate : ∃ now, i = .update now
  · obtain ⟨now, rfl⟩ := hupdate
    obtain ⟨hpass, hregs⟩ | ⟨hsoon, hregs⟩ := execUpdate_pollRegs hexec
    · exact .inl ⟨now, rfl, hpass, hregs⟩
    · exact .inr ⟨fun now' he => Instr.update.inj he ▸ hsoon, hregs⟩
  · refine .inr ⟨fun now he => absurd ⟨now, he⟩ hupdate, ?_⟩
    exact (exec_effect hexec).pollRegs_eq hreset fun now he => hupdate ⟨now, he⟩

/-! ### Faults (R41 (1), R52) -/

/-- A conditional faults only where one of its branches does. -/
theorem ite_ne_fault {p : Prop} [Decidable p] {x y : Host.Outcome State Fault Refusal} {f : Fault}
    (hx : x ≠ .fault f) (hy : y ≠ .fault f) : (if p then x else y) ≠ .fault f := by
  split
  · exact hx
  · exact hy

theorem execByteFill_fault_iff (b : Byte) (s : State) (f : Fault) :
    execByteFill b s = .fault f ↔ f = .bufIndexOutOfRange ∧ s.phase = .fill ∧ s.cfg.n ≤ s.cnt.toNat := by
  unfold execByteFill
  by_cases hp : s.phase = .fill
  · by_cases hc : s.cnt.toNat < s.cfg.n
    · have hnext := ite_ne_fault (p := s.cnt.toNat + 1 < s.cfg.n) (x := .next (s.storeByte b).countByte)
        (y := .next (s.storeByte b).completeFrame) (f := f) nofun nofun
      simp [hp, hc, hnext]
    · simp [hp, hc, Nat.le_of_not_lt hc]
  · simp [hp]

/-- Every instruction but BYTE_FILL answers a next state or is refused. -/
theorem exec_ne_fault {i : Instr} (hi : ∀ b, i ≠ .byteFill b) (s : State) (f : Fault) : exec i s ≠ .fault f := by
  cases i with
  | byteFill b => exact absurd rfl (hi b)
  | update => exact ite_ne_fault nofun (ite_ne_fault nofun nofun)
  | byteHunt => exact ite_ne_fault (ite_ne_fault nofun nofun) nofun
  | byteSeen => exact ite_ne_fault (ite_ne_fault nofun (ite_ne_fault nofun nofun)) nofun
  | eof | timeout | reservedSym | connOk | connFail | connReserved00 | connReserved11 => exact ite_ne_fault nofun nofun
  | _ => exact nofun

/-- An instruction faults exactly where it would store outside the buffer (R52). -/
theorem exec_fault_iff (i : Instr) (s : State) (f : Fault) :
    exec i s = .fault f ↔
      f = .bufIndexOutOfRange ∧ (∃ b, i = .byteFill b) ∧ s.phase = .fill ∧ s.cfg.n ≤ s.cnt.toNat := by
  by_cases hi : ∃ b, i = .byteFill b
  · obtain ⟨b, rfl⟩ := hi
    exact (execByteFill_fault_iff b s f).trans
      ⟨fun ⟨hf, hstore⟩ => ⟨hf, ⟨b, rfl⟩, hstore⟩, fun ⟨hf, _, hstore⟩ => ⟨hf, hstore⟩⟩
  · exact iff_of_false (exec_ne_fault (fun b hb => hi ⟨b, hb⟩) s f) fun ⟨_, hfill, _⟩ => hi hfill

/-- A step that faults ran an instruction that did. -/
theorem step_fault {s : State} {f : Fault} (h : step s = .fault f) : ∃ i rest, exec i (s.consume rest) = .fault f := by
  unfold step at h
  split at h
  · cases h
  · split at h
    · exact ⟨_, _, h⟩
    · cases h

/-- Settles O9: R41 (1) denies the condition of `exec_fault_iff`. -/
theorem faultsExactlyOutsideTheBuffer : Obligations.FaultsExactlyOutsideTheBuffer := by
  refine ⟨?step, ?offsets, exec_fault_iff⟩
  case step =>
    intro s f hcount hstep
    obtain ⟨i, rest, hexec⟩ := step_fault hstep
    obtain ⟨_, _, hp, hn⟩ := (exec_fault_iff _ _ _).mp hexec
    exact absurd (hcount hp) (Nat.not_lt.mpr hn)
  case offsets =>
    intro c
    refine ⟨fun ha => ?_, fun hb => ?_⟩
    · rw [n_of_variantA ha]
      decide
    · rw [n_of_variantB hb]
      decide

end Sys2Proof.Machine

/-! SUPPORT. Proofs of the statements about the frame buffer's bytes on their way into the snapshot (spec/20_memory.md): a frame
streamed from its marker to its commit, and the step that emits OK_UPDATED. -/

namespace Sys2Proof.Machine

/-! ### The fields of a frame, from its bytes (R83, R84) -/

/-- Two bytes, the first the more significant, as arithmetic (R54, R94). -/
theorem bigEndian16_eq_ofNat (hi lo : Byte) : bigEndian16 hi lo = BitVec.ofNat 16 (256 * hi.toNat + lo.toNat) := by
  have hhi := hi.isLt
  have hlo := lo.isLt
  apply BitVec.eq_of_toNat_eq
  rw [bigEndian16, BitVec.toNat_or, BitVec.toNat_shiftLeft, BitVec.toNat_setWidth_of_le (by decide),
    BitVec.toNat_setWidth_of_le (by decide), BitVec.toNat_ofNat, Nat.mod_eq_of_lt (by rw [Nat.shiftLeft_eq]; omega),
    ← Nat.shiftLeft_add_eq_or_of_lt hlo, Nat.shiftLeft_eq]
  omega

/-- Variant B's temperature as arithmetic (R94, R143). -/
theorem offsetTemperature_eq_ofNat (v flag : Byte) :
    offsetTemperature v (overflowSet flag) = BitVec.ofNat 16 (v.toNat + if flag = 0 then 0 else 255) := by
  apply BitVec.eq_of_toNat_eq
  by_cases hflag : flag = 0
  · simp [offsetTemperature, overflowSet, hflag]
  · have hset : overflowSet flag = true := decide_eq_true hflag
    rw [if_neg hflag]
    simp [offsetTemperature, hset, overflowOffset]

section
variable {f : Memory} {F : Nat → Byte}

/-- `Decode_A` of a buffer that holds the bytes `F` (R83, R141, R142). -/
theorem decodeA_of_read (h : ∀ i, i < 16 → f.read i = F i) :
    decodeA f =
      { temperature := BitVec.ofNat 16 (256 * (F 0).toNat + (F 1).toNat)
        valveActual := F 2, valveTarget := F 3, statusRaw := F 4, state := (stateMap (F 4)).code } := by
  simp only [decodeA, bigEndian16_eq_ofNat, h 0 (by decide), h 1 (by decide), h 2 (by decide), h 3 (by decide),
    h 4 (by decide)]

/-- The end marker's test on a buffer that holds the bytes `F` (R83, R122). -/
theorem endMarkerValid_iff_of_read (h : ∀ i, i < 16 → f.read i = F i) :
    endMarkerValid f = true ↔ F 14 = 0x0D ∧ F 15 = 0xFF := by
  simp only [endMarkerValid, h endMarkerIndex1 (by decide), h endMarkerIndex2 (by decide), Bool.and_eq_true,
    decide_eq_true_eq]
  exact Iff.rfl

/-- `Decode_B`'s shared fields, of a buffer that holds the bytes `F` (R84, R143, R144). -/
theorem decodeB_of_read (h : ∀ i, i < 54 → f.read i = F i) :
    decodeB f =
      { temperature := BitVec.ofNat 16 ((F 1).toNat + if F 53 = 0 then 0 else 255)
        valveTarget := F 2, valveActual := F 3, statusRaw := F 4, state := (stateMap (F 4)).code } := by
  simp only [decodeB, offsetTemperature_eq_ofNat, flagIndex, h 1 (by decide), h 2 (by decide), h 3 (by decide),
    h 4 (by decide), h 53 (by decide)]

/-- `Decode_B`'s own fields, of a buffer that holds the bytes `F` (R84, R144). -/
theorem decodeAux_of_read (h : ∀ i, i < 54 → f.read i = F i) :
    decodeAux f =
      { bufferLower := F 34, bufferUpper := F 36, flow := F 37, chimney := F 47, fan := F 50 } := by
  simp only [decodeAux, h 34 (by decide), h 36 (by decide), h 37 (by decide), h 47 (by decide), h 50 (by decide)]

end

/-! ### A valid frame's completion, as one update (R150, R151) -/

/-- The state that a valid frame's completion leaves, but for the registers it commits. -/
def State.cycleDone (s : State) : State :=
  { s with
    phase := .idle, cnt := 0, snapValid := true, conn := .closed
    inputs := withoutCollaborator s.inputs
    out := s.out ++ [.response ⟨.okUpdated, 0⟩, .request .closeConn] }

theorem completeValid_of_variantA {s : State} (hv : s.cfg.variant = .a) (f : Memory) :
    s.completeValid f = { s.cycleDone with snap := decodeA f } := by
  simp [State.completeValid, State.commitFrame, hv, State.cycleDone, State.toIdle, State.enterPhase, State.clearCnt,
    State.requestClose, State.respond, State.emit, State.commitShared]

theorem completeValid_of_variantB {s : State} (hv : s.cfg.variant = .b) (f : Memory) :
    s.completeValid f = { s.cycleDone with snap := decodeB f, aux := decodeAux f } := by
  simp [State.completeValid, State.commitFrame, hv, State.cycleDone, State.toIdle, State.enterPhase, State.clearCnt,
    State.requestClose, State.respond, State.emit, State.commitShared, State.commitAux]

/-- A completed frame that its variant takes as valid (R122, R123). -/
theorem validateFrame_of_valid {s : State} {f : Memory} (hf : s.cfg.variant = .a → endMarkerValid f = true) :
    s.validateFrame f = s.completeValid f := by
  obtain ⟨_, he⟩ | ⟨hv, hbad, _⟩ := validateFrame_cases f s
  · exact he
  · exact absurd (hf hv) (by simp [hbad])

/-! ### Bytes written one after another (R53) -/

/-- The bytes `bs` written at `i` and the indices after it. -/
def Memory.writeFrom : Memory → Nat → List Byte → Memory
  | m, _, [] => m
  | m, i, b :: bs => (m.write i b).writeFrom (i + 1) bs

/-- A read after such a run of writes: inside it the byte at its place, elsewhere what was there. -/
theorem Memory.read_writeFrom {n : Nat} (j : Nat) :
    ∀ {bs : List Byte} {m : Memory} {i : Nat}, m.wf n = true → i + bs.length ≤ n →
      (m.writeFrom i bs).read j = if i ≤ j ∧ j < i + bs.length then bs.getD (j - i) 0 else m.read j
  | [], m, i, _, _ => by
    rw [if_neg (by simp)]
    rfl
  | b :: bs, m, i, hm, hn => by
    rw [List.length_cons] at hn ⊢
    rw [Memory.writeFrom, Memory.read_writeFrom j (Memory.wf_write (by omega) hm) (by omega), Memory.read_write hm]
    obtain hlt | rfl | hgt := Nat.lt_trichotomy j i
    · rw [if_neg (by omega), if_neg (by omega), if_neg (by omega)]
    · rw [if_neg (by omega), if_pos rfl, if_pos (by omega), Nat.sub_self, List.getD_cons_zero]
    · obtain ⟨k, rfl⟩ := Nat.exists_eq_add_of_lt hgt
      rw [show i + k + 1 - i = k + 1 by omega, show i + k + 1 - (i + 1) = k by omega, List.getD_cons_succ]
      exact if_congr (by omega) rfl (if_neg (by omega))

/-- A buffer wholly written holds the bytes written, whatever it held before. -/
theorem Memory.read_writeFrom_zero {n j : Nat} {bs : List Byte} {m : Memory} (hm : m.wf n = true) (hn : bs.length = n)
    (hj : j < n) : (m.writeFrom 0 bs).read j = bs.getD j 0 := by
  rw [Memory.read_writeFrom j hm (by omega), if_pos (by omega), Nat.sub_zero]

/-! ### BYTE symbols, by phase (R100) -/

theorem feed_cons {s t : State} {b : Byte} (bs : List Byte) (h : feedByte b s = .next t) :
    feed (b :: bs) s = feed bs t := by
  simp only [feed, h]

/-- A BYTE symbol runs the row of the phase it is taken in. -/
theorem feedByte_eq_exec {s : State} {b : Byte} {i : Instr} (hready : Port.ready s.phase .stream = true)
    (hi : decodeByte s.phase b = .ok i) : feedByte b s = exec i s := by
  have hdecode : decode s.cfg.timeW s.phase (.stream (0#2 ++ b)) = .ok i := by
    rw [decode, decodeStream, if_pos hready, symKind_append, symData_append]
    exact hi
  simp only [feedByte, hdecode]

theorem feedByte_of_hunt {s : State} (hp : s.phase = .hunt) (b : Byte) : feedByte b s = execByteHunt b s :=
  feedByte_eq_exec (i := .byteHunt b) (by rw [hp]; rfl) (by rw [hp]; rfl)

theorem feedByte_of_seen {s : State} (hp : s.phase = .seen) (b : Byte) : feedByte b s = execByteSeen b s :=
  feedByte_eq_exec (i := .byteSeen b) (by rw [hp]; rfl) (by rw [hp]; rfl)

theorem feedByte_of_fill {s : State} (hp : s.phase = .fill) (b : Byte) : feedByte b s = execByteFill b s :=
  feedByte_eq_exec (i := .byteFill b) (by rw [hp]; rfl) (by rw [hp]; rfl)

/-- A byte of a frame that it does not complete (R120). -/
theorem execByteFill_of_more {s : State} (hp : s.phase = .fill) (hc : s.cnt.toNat + 1 < s.cfg.n) (b : Byte) :
    execByteFill b s = .next (s.storeByte b).countByte := by
  rw [execByteFill, if_pos hp, if_pos (by omega), if_pos hc]

/-- The byte that completes a frame (R120, R121). -/
theorem execByteFill_of_last {s : State} (hp : s.phase = .fill) (hc : s.cnt.toNat + 1 = s.cfg.n) (b : Byte) :
    execByteFill b s = .next (s.storeByte b).completeFrame := by
  rw [execByteFill, if_pos hp, if_pos (by omega), if_neg (by omega)]

/-! ### A frame streamed (R57, R120) -/

/-- The bytes `bs` stored from `cnt` on; `cnt` itself is not moved. -/
def State.storeFrom (bs : List Byte) (s : State) : State := { s with buf := s.buf.writeFrom s.cnt.toNat bs }

/-- The rest of a frame, fed in FILL, is stored from `cnt` on and completes the frame. -/
theorem feed_rest_of_frame : ∀ {bs : List Byte} {s : State}, s.phase = .fill → bs ≠ [] →
    s.cnt.toNat + bs.length = s.cfg.n → feed bs s = .next (s.storeFrom bs).completeFrame
  | [], _, _, hne, _ => absurd rfl hne
  | [b], s, hp, _, hn => feed_cons [] ((feedByte_of_fill hp b).trans (execByteFill_of_last hp hn b))
  | b :: c :: bs, s, hp, _, hn => by
    have hmore : s.cnt.toNat + 1 < s.cfg.n := by
      rw [List.length_cons, List.length_cons] at hn
      omega
    have hcnt : (s.storeByte b).countByte.cnt.toNat = s.cnt.toNat + 1 := toNat_countByte_cnt (s := s.storeByte b) hmore
    have hn' : (s.storeByte b).countByte.cnt.toNat + (c :: bs).length = s.cfg.n := by
      simp only [List.length_cons] at hn ⊢
      omega
    have hstored : ((s.storeByte b).countByte.storeFrom (c :: bs)).completeFrame =
        (s.storeFrom (b :: c :: bs)).completeFrame := by
      simp only [State.storeFrom, hcnt]
      rfl
    rw [feed_cons _ ((feedByte_of_fill hp b).trans (execByteFill_of_more hp hmore b)), ← hstored]
    exact feed_rest_of_frame (s := (s.storeByte b).countByte) hp (List.cons_ne_nil c bs) hn'

/-- The marker, fed in HUNT, leads to FILL with `cnt` 0 (R101, R102). -/
theorem feed_marker {s : State} (hp : s.phase = .hunt) (bs : List Byte) :
    feed (0x0E :: 0xFF :: bs) s = feed bs (s.enterPhase .fill).clearCnt := by
  have hfirst : feedByte 0x0E s = .next (s.enterPhase .seen) := by
    rw [feedByte_of_hunt hp, execByteHunt, if_pos hp, if_pos (show (0x0E : Byte) = startMarker1 from rfl)]
  have hsecond : feedByte 0xFF (s.enterPhase .seen) = .next (s.enterPhase .fill).clearCnt := by
    rw [feedByte_of_seen rfl, execByteSeen, if_pos (State.enterPhase_phase s .seen), if_pos (show (0xFF : Byte) = startMarker2 from rfl)]
    rfl
  rw [feed_cons _ hfirst, feed_cons _ hsecond]

/-- The state in which a frame fed from HUNT has just filled the buffer, its `cnt` cleared for the validation (R120). -/
def State.frameFilled (f : List Byte) (s : State) : State :=
  { s with phase := .fill, cnt := 0, buf := s.buf.writeFrom 0 f }

/-- A marker and a frame, fed in HUNT, fill the buffer with the frame, which is then validated. -/
theorem feed_markedFrame {s : State} {f : List Byte} (hp : s.phase = .hunt) (hn : f.length = s.cfg.n) :
    feed (0x0E :: 0xFF :: f) s = .next ((s.frameFilled f).validateFrame (s.buf.writeFrom 0 f)) := by
  have hne : f ≠ [] := List.ne_nil_of_length_pos (hn ▸ n_pos s.cfg)
  rw [feed_marker hp, feed_rest_of_frame (s := (s.enterPhase .fill).clearCnt) rfl hne ((Nat.zero_add _).trans hn)]
  rfl

/-- A marker and a frame that the variant takes as valid, fed in HUNT, end in that frame's completion. -/
theorem feed_validFrame {s : State} {f : List Byte} (hp : s.phase = .hunt) (hn : f.length = s.cfg.n)
    (hf : s.cfg.variant = .a → endMarkerValid (s.buf.writeFrom 0 f) = true) :
    feed (0x0E :: 0xFF :: f) s = .next ((s.frameFilled f).completeValid (s.buf.writeFrom 0 f)) := by
  rw [feed_markedFrame hp hn, validateFrame_of_valid (s := s.frameFilled f) hf]

/-- Settles O35: the buffer filled holds the frame, so the end marker is valid and `Decode_A` reads the frame's bytes. -/
theorem streamedFrameADecodes : Obligations.StreamedFrameADecodes := by
  intro s f hv hp hwf hlen h14 h15
  have hread : ∀ j, j < 16 → (s.buf.writeFrom 0 f).read j = f.getD j 0 := fun j hj =>
    Memory.read_writeFrom_zero hwf hlen hj
  have hend := (endMarkerValid_iff_of_read (F := fun i => f.getD i 0) hread).mpr ⟨h14, h15⟩
  refine ⟨_, feed_validFrame hp (hlen.trans (n_of_variantA hv).symm) fun _ => hend, ?state, ?bytes⟩
  case state =>
    rw [completeValid_of_variantA (s := s.frameFilled f) hv, decodeA_of_read (F := fun i => f.getD i 0) hread]
    rfl
  case bytes =>
    rw [State.completeValid_buf]
    exact hread

/-- Settles O37: every frame is valid in Variant B, and `Decode_B` reads its bytes from the buffer filled. -/
theorem streamedFrameBDecodes : Obligations.StreamedFrameBDecodes := by
  intro s f hv hp hwf hlen
  have hread : ∀ j, j < 54 → (s.buf.writeFrom 0 f).read j = f.getD j 0 := fun j hj =>
    Memory.read_writeFrom_zero hwf hlen hj
  have hnotA : s.cfg.variant ≠ .a := by simp [hv]
  refine ⟨_, feed_validFrame hp (hlen.trans (n_of_variantB hv).symm) fun ha => absurd ha hnotA, ?state, ?bytes⟩
  case state =>
    rw [completeValid_of_variantB (s := s.frameFilled f) hv, decodeB_of_read (F := fun i => f.getD i 0) hread,
      decodeAux_of_read (F := fun i => f.getD i 0) hread]
    rfl
  case bytes =>
    rw [State.completeValid_buf]
    exact hread

/-! ### The transfer of a BYTE taken (R79) -/

/-- A symbol is put together again from its kind and its data. -/
theorem streamSym_of_symKind {sym : BitVec 10} {kind : BitVec 2} (h : symKind sym = kind) :
    streamSym kind (symData sym) = .stream sym := by
  rw [streamSym, ← h, sym_split]

/-- A BYTE_FILL is decoded only from its own BYTE symbol on the stream port. -/
theorem transfer_of_decode_byteFill {w : Nat} {p : Phase} {t : Transfer} {b : Byte}
    (h : decode w p t = .ok (.byteFill b)) : t = .stream (0#2 ++ b) := by
  obtain ⟨hport, _⟩ := decode_port_wellFormed h
  cases t with
  | command | connResponse | reset | connRequest => cases hport
  | stream sym =>
    simp only [decode, decodeStream] at h
    split at h
    · split at h
      case h_1 hkind =>
        have hb : symData sym = b := by cases p <;> cases h; rfl
        exact hb ▸ (streamSym_of_symKind (BitVec.eq_of_toNat_eq hkind)).symm
      all_goals cases h
    · cases h

/-! ### Responses and the snapshot (R65, R206) -/

/-- No error's code is OK_UPDATED (R200). -/
theorem CycleError.status_ne_okUpdated (e : CycleError) : e.status ≠ .okUpdated := by
  cases e <;> decide

/-- `raise E` adds one response, with the error's code (R205). -/
theorem response_mem_raiseError {e : CycleError} {s : State} {r : Response} (h : .response r ∈ (s.raiseError e).out) :
    .response r ∈ s.out ∨ r.status = e.status := by
  have hr : .response r ∈ s.out ∨ r = ⟨e.status, 0⟩ := by
    obtain ⟨_, he⟩ | ⟨_, he⟩ := raiseError_cases e s <;> simpa [he] using h
  exact hr.imp_right (congrArg Response.status)

/-- A response emitted by an instruction is another than OK_UPDATED and the snapshot is as before, or it is OK_UPDATED and the
instruction completed a frame that its variant takes as valid. -/
theorem Effect.response_cases {s t : State} {i : Instr} {r : Response} (h : Effect s i t) (hout : s.out = [])
    (hr : .response r ∈ t.out) :
    (r.status ≠ .okUpdated ∧ t.snap = s.snap ∧ t.aux = s.aux ∧ t.snapValid = s.snapValid) ∨
      (r.status = .okUpdated ∧ ∃ b, i = .byteFill b ∧ s.phase = .fill ∧ s.cnt.toNat + 1 = s.cfg.n ∧
        (s.cfg.variant = .a → endMarkerValid (s.storeByte b).buf = true) ∧
        t = (s.storeByte b).clearCnt.completeValid (s.storeByte b).buf) := by
  have hraise : ∀ {u : State} {e : CycleError}, u.out = [] → .response r ∈ (u.raiseError e).out → r.status ≠ .okUpdated := by
    intro u e hu hmem
    obtain hold | hcode := response_mem_raiseError hmem
    · simp [hu] at hold
    · exact hcode ▸ e.status_ne_okUpdated
  cases h with
  | answer _ c d hc =>
    have hrd : r = ⟨c, d⟩ := by simpa [hout] using hr
    exact .inl ⟨by rwa [hrd], rfl, rfl, rfl⟩
  | preempt =>
    have hrd : r = ⟨.errAborted, 0⟩ := by simpa [hout] using hr
    exact .inl ⟨by simp [hrd], rfl, rfl, rfl⟩
  | fillValid b hp hc hv =>
    have hrd : r = ⟨.okUpdated, 0⟩ := by simpa [hout] using hr
    exact .inr ⟨by rw [hrd], b, rfl, hp, hc, hv, rfl⟩
  | fillLimit b => exact .inl ⟨hraise (u := (s.storeByte b).clearCnt) hout hr, by simp⟩
  | streamEnd | connFail => exact .inl ⟨hraise hout hr, by simp⟩
  | start | huntMatch | huntDiscard | seenMatch | seenAgain | seenDiscard | fillMore | fillResync | connOk | reset | reqOpen
  | reqClose => simp [hout] at hr

/-- The buffer with a frame's last byte in place (R120, R121). -/
theorem read_storeByte_last {s : State} (hc : s.cnt.toNat + 1 = s.cfg.n) (hwf : s.buf.wf s.cfg.n = true) (b : Byte) (i : Nat) :
    (s.storeByte b).buf.read i = if i + 1 = s.cfg.n then b else s.buf.read i := by
  rw [State.storeByte_buf, Memory.read_write hwf]
  exact if_congr (by omega) rfl rfl

/-- Settles O39: the step ran a BYTE that completed a valid frame, or left the snapshot, by `Effect.response_cases`. -/
theorem onlyOkUpdatedComesWithCommit : Obligations.OnlyOkUpdatedComesWithCommit := by
  intro s s' r hstep hr
  obtain ⟨t, rest, i, ht, hdecode, hexec⟩ := step_next hstep
  obtain ⟨hne, hsame⟩ | ⟨heq, b, rfl, hp, hc, hvalid, hs'⟩ := (exec_effect hexec).response_cases rfl hr
  · exact ⟨fun heq => absurd heq hne, fun _ => hsame⟩
  refine ⟨fun _ => ⟨b, s.consume rest, ?offered, rfl, hexec, hp, hc, ?frame, ?ended⟩, fun hne => absurd heq hne⟩
  case offered =>
    obtain ⟨pre, post, hin, _⟩ := takeReady_some ht
    simp [hin, transfer_of_decode_byteFill hdecode]
  case frame =>
    intro hwf F
    have hread : ∀ i, ((s.consume rest).storeByte b).buf.read i = F i := read_storeByte_last hc hwf b
    refine ⟨fun hv => ?variantA, fun hv => ?variantB⟩
    case variantA =>
      obtain ⟨h14, h15⟩ := (endMarkerValid_iff_of_read fun i _ => hread i).mp (hvalid hv)
      rw [hs', completeValid_of_variantA (s := ((s.consume rest).storeByte b).clearCnt) hv]
      exact ⟨h14, h15, rfl, decodeA_of_read fun i _ => hread i⟩
    case variantB =>
      rw [hs', completeValid_of_variantB (s := ((s.consume rest).storeByte b).clearCnt) hv]
      exact ⟨decodeB_of_read fun i _ => hread i, decodeAux_of_read fun i _ => hread i⟩
  case ended => simp [hs']

end Sys2Proof.Machine

/-! SUPPORT. Proofs of the statements about the ports and their encodings (spec/30_encoding.md): the round trips between
transfers and instructions, the readiness of the ports, and the events of the host command and connection ports. -/

namespace Sys2Proof.Machine

/-! ### Two-bit fields -/

theorem twoBit_cases : ∀ c : BitVec 2, c = 0b00 ∨ c = 0b01 ∨ c = 0b10 ∨ c = 0b11 := by decide

/-- The last of the four codes of a two-bit field. -/
theorem eq_three_of_toNat_ne {c : BitVec 2} (h0 : c.toNat ≠ 0) (h1 : c.toNat ≠ 1) (h2 : c.toNat ≠ 2) : c = 0b11 := by
  have hlt := c.isLt
  exact BitVec.eq_of_toNat_eq (show c.toNat = 3 by omega)

/-! ### Host command words (R72, R73) -/

/-- A host command word is decoded by its opcode, with its operand whole. -/
theorem decode_commandWord {w x : Nat} (p : Phase) (op : BitVec 4) (hx : operandFits w x = true) :
    decode w p (commandWord w op x) = .ok (decodeCommand op x) := by
  have hlt : x < 2 ^ w := of_decide_eq_true hx
  rw [commandWord, decode, commandOp_word op hlt, commandOperand_word op hlt]

/-- The four opcodes 0xC to 0xF are one row that keeps `op[1:0]` (R75). -/
theorem decodeCommand_reservedCToF (opLow : BitVec 2) (x : Nat) :
    decodeCommand (0b11#2 ++ opLow) x = .reservedCToF opLow x := by
  obtain rfl | rfl | rfl | rfl := twoBit_cases opLow <;> rfl

/-- An opcode from 0xC on is 11 above its low bits. -/
theorem opcode_reservedCToF : ∀ op : BitVec 4, 12 ≤ op.toNat → 0b11#2 ++ op.extractLsb' 0 2 = op := by
  decide

/-- The opcode map loses nothing of the opcode and the operand. -/
theorem encode_decodeCommand (w : Nat) (op : BitVec 4) (x : Nat) :
    encode w (decodeCommand op x) = commandWord w op x := by
  unfold decodeCommand
  split
  case h_13 =>
    have hop : 12 ≤ op.toNat := by
      simp only [imp_false] at *
      omega
    exact congrArg (commandWord w · x) (opcode_reservedCToF op hop)
  all_goals
    rename_i hop
    exact congrArg (commandWord w · x) (BitVec.eq_of_toNat_eq hop.symm)

theorem decodeCommand_inPhase (p : Phase) (op : BitVec 4) (x : Nat) : (decodeCommand op x).inPhase p = true := by
  unfold decodeCommand
  split <;> rfl

/-! ### Stream symbols and connection responses (R79, R86, R87) -/

/-- A stream symbol on the ready port, by its kind. -/
theorem decode_streamSym {p : Phase} (w : Nat) (kind : BitVec 2) (d : Byte) (hready : Port.ready p .stream = true) :
    decode w p (streamSym kind d) =
      if kind = 0b00 then decodeByte p d
      else if kind = 0b01 then .ok (.eof d)
      else if kind = 0b10 then .ok (.timeout d)
      else .ok (.reservedSym d) := by
  rw [streamSym, decode, decodeStream, if_pos hready, symKind_append, symData_append]
  obtain rfl | rfl | rfl | rfl := twoBit_cases kind <;> rfl

/-- A connection response on the ready port, by its code. -/
theorem decode_connResponse {p : Phase} (w : Nat) (crsp : BitVec 2) (hready : Port.ready p .connResponse = true) :
    decode w p (.connResponse crsp) =
      if crsp = 0b00 then .ok .connReserved00
      else if crsp = 0b01 then .ok .connOk
      else if crsp = 0b10 then .ok .connFail
      else .ok .connReserved11 := by
  rw [decode, decodeConnResponse, if_pos hready]
  obtain rfl | rfl | rfl | rfl := twoBit_cases crsp <;> rfl

/-! ### The round trips (R72, R79, R86, R100) -/

/-- Settles O1: each port's transfers decode by their code, and the row's phase makes the port ready. -/
theorem decodeOfEncode : Obligations.DecodeOfEncode := by
  intro w p i hwf hphase
  cases i with
  | reserved0 | update | rdTemp | rdState | rdValveTarget | rdValveActual | rdValveTargetAttr | rdBufferLower
  | rdBufferUpper | rdFlow | rdChimney | rdFan => exact decode_commandWord p _ hwf
  | reservedCToF opLow x =>
    exact (decode_commandWord p _ hwf).trans (congrArg Except.ok (decodeCommand_reservedCToF opLow x))
  | byteHunt d | byteSeen d | byteFill d =>
    obtain rfl := of_decide_eq_true hphase
    exact decode_streamSym w 0b00 d rfl
  | eof d => exact decode_streamSym w 0b01 d hphase
  | timeout d => exact decode_streamSym w 0b10 d hphase
  | reservedSym d => exact decode_streamSym w 0b11 d hphase
  | connOk => exact decode_connResponse w 0b01 hphase
  | connFail => exact decode_connResponse w 0b10 hphase
  | connReserved00 => exact decode_connResponse w 0b00 hphase
  | connReserved11 => exact decode_connResponse w 0b11 hphase
  | reset | reqOpen | reqClose => rfl

/-- What a transfer decodes to is of a row of the phase (R71, R100). -/
theorem decode_inPhase {w : Nat} {p : Phase} {t : Transfer} {i : Instr} (h : decode w p t = .ok i) : i.inPhase p = true := by
  cases t with
  | command word =>
    cases h
    exact decodeCommand_inPhase p _ _
  | stream sym =>
    simp only [decode, decodeStream] at h
    split at h
    case isTrue hready =>
      split at h
      · cases p <;> cases h <;> rfl
      all_goals cases h; exact hready
    case isFalse => cases h
  | connResponse crsp =>
    simp only [decode, decodeConnResponse] at h
    split at h
    case isTrue hready => split at h <;> cases h <;> exact hready
    case isFalse => cases h
  | reset => cases h; rfl
  | connRequest req =>
    simp only [decode, decodeConnRequest] at h
    split at h <;> cases h <;> rfl

/-- What a stream symbol decodes to encodes to that symbol, its ignored data bits as well (R79). -/
theorem encode_of_decodeStream {w : Nat} {p : Phase} {sym : BitVec 10} {i : Instr} (h : decodeStream p sym = .ok i) :
    encode w i = .stream sym := by
  unfold decodeStream at h
  split at h
  case isFalse => cases h
  case isTrue =>
    split at h
    case h_1 hkind =>
      have hsym := streamSym_of_symKind (BitVec.eq_of_toNat_eq (y := 0b00) hkind)
      cases p <;> cases h <;> exact hsym
    case h_2 hkind =>
      cases h
      exact streamSym_of_symKind (BitVec.eq_of_toNat_eq hkind)
    case h_3 hkind =>
      cases h
      exact streamSym_of_symKind (BitVec.eq_of_toNat_eq hkind)
    case h_4 h0 h1 h2 =>
      cases h
      exact streamSym_of_symKind (eq_three_of_toNat_ne h0 h1 h2)

/-- What a connection response decodes to encodes to its code. -/
theorem encode_of_decodeConnResponse {w : Nat} {p : Phase} {crsp : BitVec 2} {i : Instr}
    (h : decodeConnResponse p crsp = .ok i) : encode w i = .connResponse crsp := by
  unfold decodeConnResponse at h
  split at h
  case isFalse => cases h
  case isTrue =>
    split at h <;> cases h
    case h_4 h0 h1 h2 => exact congrArg Transfer.connResponse (eq_three_of_toNat_ne h0 h1 h2).symm
    all_goals
      rename_i hcode
      exact congrArg Transfer.connResponse (BitVec.eq_of_toNat_eq hcode.symm)

/-- What a connection request decodes to encodes to its code. -/
theorem encode_of_decodeConnRequest {w : Nat} {req : BitVec 2} {i : Instr} (h : decodeConnRequest req = .ok i) :
    encode w i = .connRequest req := by
  unfold decodeConnRequest at h
  split at h <;> cases h
  all_goals
    rename_i hcode
    exact congrArg Transfer.connRequest (BitVec.eq_of_toNat_eq hcode.symm)

/-- Settles O2: the transfer is put together again port by port. -/
theorem encodeOfDecode : Obligations.EncodeOfDecode := by
  intro w p t i hfits h
  obtain ⟨_, hwf⟩ := decode_port_wellFormed h
  refine ⟨?_, hwf, decode_inPhase h⟩
  cases t with
  | command word =>
    cases h
    rw [encode_decodeCommand, commandWord, command_split (of_decide_eq_true hfits)]
  | stream sym => exact encode_of_decodeStream h
  | connResponse crsp => exact encode_of_decodeConnResponse h
  | reset => cases h; rfl
  | connRequest req => exact encode_of_decodeConnRequest h

/-- Settles O3: twelve words of the tables, decoded. -/
theorem sampleWordsDecode : Obligations.SampleWordsDecode :=
  ⟨rfl, rfl, rfl, rfl, rfl, rfl, rfl, rfl, rfl, rfl, rfl, rfl⟩

/-! ### What a step leaves on offer (R71, R213, R231) -/

/-- The offers an instruction leaves: those of the collaborator are discarded where `closed` says that its connection ended,
and all stay elsewhere. -/
def OffersLeft (s t : State) (closed : Prop) : Prop :=
  (closed ∧ t.inputs = withoutCollaborator s.inputs) ∨ (¬ closed ∧ t.inputs = s.inputs)

/-- `raise E` discards the collaborator's offers exactly where it emits CLOSE (R205, R213). -/
theorem raiseError_offersLeft (e : CycleError) {s : State} (hout : s.out = []) :
    OffersLeft s (s.raiseError e) (.request .closeConn ∈ (s.raiseError e).out) := by
  obtain ⟨_, he⟩ | ⟨_, he⟩ := raiseError_cases e s <;> rw [he]
  · exact .inr ⟨by simp [hout], rfl⟩
  · exact .inl ⟨by simp, rfl⟩

/-- From no outputs, an instruction discards the collaborator's offers exactly where it is RESET or emits CLOSE. -/
theorem Effect.offersLeft {s t : State} {i : Instr} (h : Effect s i t) (hout : s.out = []) :
    OffersLeft s t (i = .reset ∨ .request .closeConn ∈ t.out) := by
  have hraise : ∀ {u : State} (e : CycleError), u.out = [] → i ≠ .reset →
      OffersLeft u (u.raiseError e) (i = .reset ∨ .request .closeConn ∈ (u.raiseError e).out) := by
    intro u e hu hi
    simpa [OffersLeft, hi] using raiseError_offersLeft e hu
  cases h with
  | answer _ c d _ hi =>
    have hne : i ≠ .reset := by rintro rfl; cases hi
    exact .inr ⟨by simp [hne, hout], rfl⟩
  | start | huntMatch | huntDiscard | seenMatch | seenAgain | seenDiscard | fillMore | fillResync | connOk | reqOpen =>
    exact .inr ⟨by simp [hout], by simp⟩
  | preempt | fillValid | reset | reqClose => exact .inl ⟨by simp, by simp⟩
  | fillLimit b => exact hraise (u := (s.storeByte b).clearCnt) _ hout nofun
  | streamEnd _ e _ hi | connFail _ _ hi => exact hraise _ hout (by rintro rfl; cases hi)

/-- The reset pulse is the one transfer that decodes to RESET. -/
theorem decode_reset_iff {w : Nat} {p : Phase} {t : Transfer} {i : Instr} (h : decode w p t = .ok i) :
    t = .reset ↔ i = .reset := by
  refine ⟨fun ht => ?_, fun hi => ?_⟩
  · subst ht
    cases h
    rfl
  · obtain ⟨hport, _⟩ := decode_port_wellFormed h
    subst hi
    cases t with
    | reset => rfl
    | command | stream | connResponse | connRequest => cases hport

/-- R71's table of ready ports. -/
theorem ready_table (p : Phase) : Port.ready p .hostCommand = true ∧ Port.ready p .reset = true ∧
    (Port.ready p .stream = true ↔ p = .hunt ∨ p = .seen ∨ p = .fill) ∧
    (Port.ready p .connResponse = true ↔ p = .connect) := by
  cases p <;> decide

/-- No ready port has an offer: no step (R71, R216). -/
theorem step_of_noneReady {s : State} (h : ∀ t ∈ s.inputs, Port.ready s.phase t.port = false) :
    step s = .refused .noEvent := by
  simp only [step, takeReady_none.mpr h]

/-- Settles O5: the transfer taken by `takeReady_some`, and the offers left by `Effect.offersLeft`. -/
theorem portReadinessGovernsSteps : Obligations.PortReadinessGovernsSteps := by
  refine ⟨ready_table, fun _ => step_of_noneReady, fun s s' hstep => ?_⟩
  obtain ⟨t, rest, i, htake, hdecode, hexec⟩ := step_next hstep
  obtain ⟨pre, post, hin, rfl, hpre, hready⟩ := takeReady_some htake
  have hleft := (exec_effect hexec).offersLeft rfl
  rw [← decode_reset_iff hdecode] at hleft
  refine ⟨pre, t, post, hin, hpre, hready, fun hopen => ?kept, fun hclosed u => ?discarded⟩
  case kept =>
    obtain ⟨hclosed, _⟩ | ⟨_, hsame⟩ := hleft
    · exact absurd hclosed hopen
    · exact hsame
  case discarded =>
    obtain ⟨_, hgone⟩ | ⟨hopen, _⟩ := hleft
    · rw [hgone]
      exact mem_withoutCollaborator_iff
    · exact absurd hclosed hopen

/-! ### Events outside their phase (R71, R100) -/

/-- Settles O8: the rows of the stream and connection response ports test their phase first; the others name every phase. -/
theorem eventsOutsideTheirPhaseTakeNoStep : Obligations.EventsOutsideTheirPhaseTakeNoStep := by
  intro i s hphase
  have hconnect : Port.ready s.phase .connResponse = false → s.phase ≠ .connect := by
    obtain ⟨_, _, _, hconn⟩ := ready_table s.phase
    exact fun hoff hp => Bool.false_ne_true (hoff.symm.trans (hconn.mpr hp))
  cases i with
  | byteHunt | byteSeen | byteFill => exact if_neg (of_decide_eq_false hphase)
  | eof | timeout | reservedSym => exact if_neg (ne_true_of_eq_false hphase)
  | connOk | connFail | connReserved00 | connReserved11 => exact if_neg (hconnect hphase)
  | _ => cases hphase

/-! ### UPDATE past the gate (R162, R163) -/

theorem withinCooldown_eq_false {now : Ticks} {s : State} (h : ¬ s.pollTooSoon now) : s.withinCooldown now = false :=
  Bool.eq_false_iff.mpr (mt (withinCooldown_iff_pollTooSoon now s).mp h)

/-- Settles O14: the registers are those that `State.startCycle` writes. -/
theorem updateInIdleStartsCycle : Obligations.UpdateInIdleStartsCycle := by
  intro s now _ hpass hidle
  change execUpdate now s = _
  rw [execUpdate, if_neg (by simp [withinCooldown_eq_false hpass]), if_pos hidle]
  rfl

/-- Settles O15: the abort's outputs come before the start's, and its CLOSE discards the collaborator's offers. -/
theorem updateInCyclePreempts : Obligations.UpdateInCyclePreempts := by
  intro s now _ hpass hbusy
  change execUpdate now s = _
  rw [execUpdate, if_neg (by simp [withinCooldown_eq_false hpass]), if_neg hbusy]
  have hout : (s.abortCycle.startCycle now).out =
      s.out ++ [.response ⟨.errAborted, 0⟩, .request .closeConn, .request (.openConn s.cfg.host s.cfg.port)] := by
    simp
  rw [← hout]
  rfl

/-! ### The connection ports (R86, R87, R165, R166) -/

/-- Settles O21: the three responses run the one failure, which in CONNECT emits no CLOSE. -/
theorem connFailuresEndCycle : Obligations.ConnFailuresEndCycle := by
  intro s hp i hi
  have hfailed : connectFailed s =
      .next { s with phase := .idle, cnt := 0, conn := .closed, out := s.out ++ [.response ⟨.errIo, 0⟩] } := by
    rw [connectFailed, if_pos hp]
    obtain ⟨_, he⟩ | ⟨hne, _⟩ := raiseError_cases .connectFailed s
    · rw [he]
      rfl
    · exact absurd hp hne
  simp only [List.mem_cons, List.not_mem_nil, or_false] at hi
  obtain rfl | rfl | rfl := hi <;> exact hfailed

/-- Settles O22: the two emissions as they are defined. -/
theorem requestsAreEmitted : Obligations.RequestsAreEmitted := fun s =>
  ⟨rfl, ⟨s.requestClose, rfl, rfl, fun _ => mem_withoutCollaborator_iff⟩, fun _ _ => rfl, rfl⟩

/-! ### The state of a status byte (R88, R145) -/

/-- Settles O33: by the branches of `stateMap`. -/
theorem statusByteHasItsStateCode : Obligations.StatusByteHasItsStateCode := by
  intro b
  unfold stateMap
  split
  case h_9 =>
    simp only [imp_false] at *
    simp [*, OperatingState.code]
  all_goals
    rename_i hb
    rw [hb]
    rfl

/-! ### Table words (assumption 8) -/

/-- The phase chosen for a table word's port is one in which the port is ready. -/
theorem ready_readyPhase (p : Phase) {port : Port} (hport : port ≠ .connRequest) :
    Port.ready (Port.readyPhase p port) port = true := by
  unfold Port.readyPhase
  split
  · assumption
  · cases port with
    | connRequest => exact absurd rfl hport
    | hostCommand | stream | connResponse | reset => rfl

/-- A table word is never a connection request, which the block only emits. -/
theorem port_tableTransfer_ne {timeW nbits w : Nat} {t : Transfer} (h : tableTransfer timeW nbits w = some t) :
    t.port ≠ .connRequest := by
  unfold tableTransfer at h
  split at h
  · split at h <;> cases h
    exact nofun
  · split at h
    · cases h
      exact nofun
    · split at h <;> cases h <;> exact nofun

/-- Placing a transfer puts it in front of the offers, and changes only the phase and its connection beside them. -/
theorem place_eq (t : Transfer) (s : State) :
    ∃ c, s.place t = { s with inputs := t :: s.inputs, phase := Port.readyPhase s.phase t.port, conn := c } := by
  unfold State.place
  split
  case isTrue hready => exact ⟨s.conn, by simp [Port.readyPhase, hready]⟩
  case isFalse => exact ⟨_, rfl⟩

/-- Settles O47: the word placed after reset is the only offer, on a port that its phase makes ready. -/
theorem tableWordRunsNext : Obligations.TableWordRunsNext := by
  intro nbits w i h
  unfold decodeTableWord at h
  split at h
  case h_1 => cases h
  case h_2 t ht =>
    split at h
    case h_2 => cases h
    case h_1 hdecode =>
      cases h
      have hplaced : State.reset.withFetchWord nbits w = State.reset.place t := by
        simp only [State.withFetchWord, State.placeWord, State.reset, State.resetWith_cfg, ht]
      obtain ⟨c, hc⟩ := place_eq t State.reset
      have htake : takeReady (Port.readyPhase .idle t.port) [t] = some (t, []) :=
        takeReady_append (pre := []) (ready_readyPhase .idle (port_tableTransfer_ne ht)) nofun
      rw [hplaced, hc]
      exact ⟨_, step_of_takeReady htake hdecode, decode_inPhase hdecode, rfl, rfl, rfl⟩

end Sys2Proof.Machine

/-! SUPPORT. Proofs of the statements about the synchronizer (spec/40_synchronizer.md): that every offer of a ready port is
stepped, the bytes before and of the marker, where each phase of a search is entered, and the stream's end symbols. -/

namespace Sys2Proof.Machine

/-! ### BYTE in HUNT and in SEEN (R101, R102) -/

/-- R101 as one equation. -/
theorem execByteHunt_of_hunt {s : State} (hp : s.phase = .hunt) (b : Byte) :
    execByteHunt b s = .next (s.enterPhase (if b = 0x0E then .seen else .hunt)) := by
  rw [execByteHunt, if_pos hp]
  by_cases hb : b = 0x0E
  · rw [if_pos hb, if_pos (show b = startMarker1 from hb)]
  · rw [if_neg hb, if_neg (show b ≠ startMarker1 from hb)]

/-- R102 as one equation, under both readings of a diverging 0x0E. -/
theorem execByteSeen_of_seen {s : State} (hp : s.phase = .seen) (b : Byte) :
    execByteSeen b s = .next
      (if b = 0xFF then (s.enterPhase .fill).clearCnt
       else if s.cfg.syncReexamine = true ∧ b = 0x0E then s.enterPhase .seen
       else s.enterPhase .hunt) := by
  have hagain : (s.cfg.syncReexamine && decide (b = startMarker1)) = true ↔ s.cfg.syncReexamine = true ∧ b = 0x0E := by
    rw [Bool.and_eq_true, decide_eq_true_eq]
    exact Iff.rfl
  rw [execByteSeen, if_pos hp, if_congr hagain rfl rfl, apply_ite Host.Outcome.next, apply_ite Host.Outcome.next]
  rfl

/-- Settles O23: R101's equation, on the fields. -/
theorem byteInHuntMatchesFirstMarkerByte : Obligations.ByteInHuntMatchesFirstMarkerByte :=
  fun _ b hp => execByteHunt_of_hunt hp b

/-- Settles O24: R102's equation, on the fields. -/
theorem byteInSeenMatchesSecondMarkerByte : Obligations.ByteInSeenMatchesSecondMarkerByte :=
  fun _ b hp => execByteSeen_of_seen hp b

/-! ### The stream's end symbols (R103 to R105) -/

/-- A stream symbol that ends the cycle, on the ready port: its error is raised, with a CLOSE (R205). -/
theorem streamError_of_ready {s : State} (hready : Port.ready s.phase .stream = true) (e : CycleError) :
    streamError e s = .next ((s.respond e.status 0).requestClose).toIdle := by
  rw [streamError, if_pos hready]
  obtain ⟨hp, _⟩ | ⟨_, he⟩ := raiseError_cases e s
  · rw [hp] at hready
    cases hready
  · rw [he]

/-- Settles O25: the three symbols raise their errors wherever the stream port is ready. -/
theorem streamEndSymbolsEndCycle : Obligations.StreamEndSymbolsEndCycle := by
  intro s d hp ended
  obtain ⟨_, _, hstream, _⟩ := ready_table s.phase
  have hended : ∀ e : CycleError, streamError e s = ended e.status := by
    intro e
    have hout : ((s.respond e.status 0).requestClose).toIdle.out =
        s.out ++ [.response ⟨e.status, 0⟩, .request .closeConn] := by simp
    simp only [streamError_of_ready (hstream.mpr hp), ended, ← hout]
    rfl
  exact ⟨hended .streamInterrupted, hended .readTimeout, hended .collaboratorError⟩

/-! ### Every offer of a ready port is stepped (R52, R100) -/

/-- A BYTE in FILL completes while the count is within the buffer (R52, R120). -/
theorem execByteFill_completes {s : State} (hp : s.phase = .fill) (hc : s.cnt.toNat < s.cfg.n) (b : Byte) :
    ∃ t, execByteFill b s = .next t := by
  obtain hmore | hlast : s.cnt.toNat + 1 < s.cfg.n ∨ s.cnt.toNat + 1 = s.cfg.n := by omega
  · exact ⟨_, execByteFill_of_more hp hmore b⟩
  · exact ⟨_, execByteFill_of_last hp hlast b⟩

/-- Settles O7: the phases of a row are those that its meaning tests for, and the count keeps BYTE_FILL from its fault. -/
theorem everyInstrCompletesInItsPhases : Obligations.EveryInstrCompletesInItsPhases := by
  intro i s hphase hcount
  obtain ⟨_, _, _, hconn⟩ := ready_table s.phase
  cases i with
  | update now => obtain ⟨_, he⟩ | ⟨_, _, he⟩ | ⟨_, _, he⟩ := execUpdate_cases now s <;> exact ⟨_, he⟩
  | byteHunt b => exact ⟨_, execByteHunt_of_hunt (of_decide_eq_true hphase) b⟩
  | byteSeen b => exact ⟨_, execByteSeen_of_seen (of_decide_eq_true hphase) b⟩
  | byteFill b =>
    have hp : s.phase = .fill := of_decide_eq_true hphase
    exact execByteFill_completes hp (hcount hp) b
  | eof | timeout | reservedSym => exact ⟨_, streamError_of_ready hphase _⟩
  | connOk | connFail | connReserved00 | connReserved11 => exact ⟨_, if_pos (hconn.mp hphase)⟩
  | _ => exact ⟨_, rfl⟩

/-- Where a ready port has an offer, one is taken. -/
theorem exists_takeReady {p : Phase} {ts : List Transfer} (h : ∃ t ∈ ts, Port.ready p t.port = true) :
    ∃ t rest, takeReady p ts = some (t, rest) := by
  obtain ⟨t, hmem, hready⟩ := h
  cases htake : takeReady p ts with
  | none => exact absurd hready (by simp [takeReady_none.mp htake t hmem])
  | some taken => exact ⟨taken.1, taken.2, rfl⟩

/-- Settles O6: the offer taken decodes to an instruction of a row of the phase, which completes. -/
theorem readyEventsAreStepped : Obligations.ReadyEventsAreStepped := by
  intro s hcount hoffer
  obtain ⟨t, rest, htake⟩ := exists_takeReady hoffer
  obtain ⟨_, _, _, _, _, hready⟩ := takeReady_some htake
  obtain ⟨i, hdecode⟩ := decode_ok_of_ready (w := s.cfg.timeW) hready
  rw [step_of_takeReady htake hdecode]
  exact everyInstrCompletesInItsPhases i (s.consume rest) (decode_inPhase hdecode) hcount

/-! ### Where the phases of a search are entered (R107) -/

/-- The end marker's test on a Variant A frame with its last byte in place: it fails only on another end marker (R122). -/
theorem not_endMarker_of_invalid {s : State} {b : Byte} (hn : s.cfg.n = 16) (hc : s.cnt.toNat + 1 = s.cfg.n)
    (he : endMarkerValid (s.storeByte b).buf = false) (hwf : s.buf.wf 16 = true) :
    ¬ (s.buf.read 14 = 0x0D ∧ b = 0xFF) := by
  have hread := read_storeByte_last hc (hn ▸ hwf) b
  have hvalid := endMarkerValid_iff_of_read (f := (s.storeByte b).buf) fun i _ => hread i
  simp only [hn] at hvalid
  exact fun hmarker => Bool.false_ne_true (he.symm.trans (hvalid.mpr hmarker))

/-- After an instruction the phase is HUNT: a search was on, or CONN_OK started one, or a Variant A frame was invalid with the
cap not reached. -/
theorem Effect.cases_of_hunt {s t : State} {i : Instr} (h : Effect s i t) (ht : t.phase = .hunt) :
    s.phase = .hunt ∨ s.phase = .seen ∨ (i = .connOk ∧ s.phase = .connect) ∨
      ∃ b, i = .byteFill b ∧ s.phase = .fill ∧ s.cfg.variant = .a ∧ s.cnt.toNat + 1 = s.cfg.n ∧
        endMarkerValid (s.storeByte b).buf = false ∧ s.cfg.maxResync ≠ some s.resyncCnt := by
  cases h with
  | answer | reqOpen | reqClose => exact .inl ht
  | huntDiscard _ hp => exact .inl hp
  | seenDiscard _ hp => exact .inr (.inl hp)
  | connOk hp => exact .inr (.inr (.inl ⟨rfl, hp⟩))
  | fillResync b hp hc hv he hn => exact .inr (.inr (.inr ⟨b, rfl, hp, hv, hc, he, hn⟩))
  | fillMore b hp => exact absurd (hp.symm.trans ht) (by decide)
  | start | preempt | huntMatch | seenMatch | seenAgain | fillValid | fillLimit | streamEnd | connFail | reset => simp at ht

/-- After an instruction the phase is SEEN: 0x0E came in HUNT, or in SEEN and was re-examined, or the phase was SEEN and the
instruction no byte. -/
theorem Effect.cases_of_seen {s t : State} {i : Instr} (h : Effect s i t) (ht : t.phase = .seen) :
    (i = .byteHunt 0x0E ∧ s.phase = .hunt) ∨
      (i = .byteSeen 0x0E ∧ s.phase = .seen ∧ s.cfg.syncReexamine = true) ∨
      (s.phase = .seen ∧ ∀ b, i ≠ .byteSeen b) := by
  cases h with
  | answer _ _ _ _ hi => exact .inr (.inr ⟨ht, by rintro b rfl; cases hi⟩)
  | reqOpen | reqClose => exact .inr (.inr ⟨ht, nofun⟩)
  | huntMatch hp => exact .inl ⟨rfl, hp⟩
  | seenAgain hp hr => exact .inr (.inl ⟨rfl, hp, hr⟩)
  | fillMore b hp => exact absurd (hp.symm.trans ht) (by decide)
  | start | preempt | huntDiscard | seenMatch | seenDiscard | fillValid | fillResync | fillLimit | streamEnd | connOk | connFail
  | reset => simp at ht

/-- After an instruction the phase is FILL: 0xFF came in SEEN and cleared the count, or the phase was FILL. -/
theorem Effect.cases_of_fill {s t : State} {i : Instr} (h : Effect s i t) (ht : t.phase = .fill) :
    s.phase = .fill ∨ (i = .byteSeen 0xFF ∧ s.phase = .seen ∧ t.cnt = 0) := by
  cases h with
  | answer | reqOpen | reqClose => exact .inl ht
  | fillMore b hp => exact .inl hp
  | seenMatch hp => exact .inr ⟨rfl, hp, rfl⟩
  | start | preempt | huntMatch | huntDiscard | seenAgain | seenDiscard | fillValid | fillResync | fillLimit | streamEnd | connOk
  | connFail | reset => simp at ht

/-- Settles O27: the three phases one after another, over the effects of `exec`. -/
theorem synchronizerIsEnteredOnlyThere : Obligations.SynchronizerIsEnteredOnlyThere := by
  intro i s t hexec
  have heffect := exec_effect hexec
  refine ⟨fun ht hhunt hseen => ?hunt, fun ht hseen => ?seen, fun ht b hi => ?seenKept, fun ht hfill => ?fill⟩
  case hunt =>
    obtain hp | hp | hconn | ⟨b, rfl, hp, hv, hc, he, hcap⟩ := heffect.cases_of_hunt ht
    · exact absurd hp hhunt
    · exact absurd hp hseen
    · exact .inl hconn
    · have hn := n_of_variantA hv
      exact .inr ⟨b, rfl, hp, hv, by omega, not_endMarker_of_invalid hn hc he, hcap⟩
  case seen =>
    obtain hmatch | ⟨_, hp, _⟩ | ⟨hp, _⟩ := heffect.cases_of_seen ht
    · exact hmatch
    · exact absurd hp hseen
    · exact absurd hp hseen
  case seenKept =>
    subst hi
    obtain ⟨he, _⟩ | ⟨he, _, hr⟩ | ⟨_, hne⟩ := heffect.cases_of_seen ht
    · cases he
    · exact ⟨Instr.byteSeen.inj he, hr⟩
    · exact absurd rfl (hne b)
  case fill => exact (heffect.cases_of_fill ht).resolve_left hfill

/-! ### Noise before a marker (R109) -/

/-- Two runs of bytes are fed one after the other (R57). -/
theorem feed_append {t : State} (vs : List Byte) :
    ∀ {us : List Byte} {s : State}, feed us s = .next t → feed (us ++ vs) s = feed vs t
  | [], s, h => by
    cases h
    rfl
  | b :: us, s, h => by
    simp only [feed] at h
    split at h
    case h_1 u hb => exact (feed_cons (us ++ vs) hb).trans (feed_append vs h)
    all_goals cases h

theorem feed_append_singleton {us : List Byte} {s t u : State} {b : Byte} (hus : feed us s = .next t)
    (hb : feedByte b t = .next u) : feed (us ++ [b]) s = .next u :=
  (feed_append [b] hus).trans (feed_cons [] hb)

section
variable {s : State}

theorem enterPhase_of_phase {p : Phase} (h : s.phase = p) : s.enterPhase p = s := by
  subst h
  rfl

/-- A byte fed in HUNT (R101). -/
theorem feedByte_in_hunt (hp : s.phase = .hunt) (b : Byte) :
    feedByte b s = .next (if b = 0x0E then s.enterPhase .seen else s) := by
  rw [feedByte_of_hunt hp, execByteHunt_of_hunt hp, apply_ite (fun p => State.enterPhase p s), enterPhase_of_phase hp]

/-- A byte fed after the 0x0E that took HUNT to SEEN (R102). -/
theorem feedByte_after_marker1 (hp : s.phase = .hunt) (b : Byte) :
    feedByte b (s.enterPhase .seen) = .next
      (if b = 0xFF then (s.enterPhase .fill).clearCnt
       else if s.cfg.syncReexamine = true ∧ b = 0x0E then s.enterPhase .seen
       else s) := by
  have hback : (s.enterPhase .seen).enterPhase .hunt = s := enterPhase_of_phase hp
  rw [feedByte_of_seen rfl, execByteSeen_of_seen rfl, hback]
  rfl

/-- With re-examination a 0x0E fed in SEEN is a marker's start, as it is in HUNT. -/
theorem feed_marker1_of_reexamine (hp : s.phase = .hunt) (hr : s.cfg.syncReexamine = true) (bs : List Byte) :
    feed (0x0E :: bs) (s.enterPhase .seen) = feed (0x0E :: bs) s := by
  have hseen : feedByte 0x0E (s.enterPhase .seen) = .next (s.enterPhase .seen) := by
    rw [feedByte_after_marker1 hp, if_neg (by decide), if_pos ⟨hr, rfl⟩]
  have hhunt : feedByte 0x0E s = .next (s.enterPhase .seen) := by
    rw [feedByte_in_hunt hp, if_pos rfl]
  rw [feed_cons bs hseen, feed_cons bs hhunt]

/-- Without it a marker fed in SEEN is missed: its 0x0E diverges and its 0xFF alone is none. -/
theorem feed_marker_missed (hp : s.phase = .hunt) (hr : s.cfg.syncReexamine = false) :
    feed [0x0E, 0xFF] (s.enterPhase .seen) = .next s := by
  have hfirst : feedByte 0x0E (s.enterPhase .seen) = .next s := by
    rw [feedByte_after_marker1 hp, if_neg (by decide), if_neg (by simp [hr])]
  have hsecond : feedByte 0xFF s = .next s := by
    rw [feedByte_in_hunt hp, if_neg (by decide)]
  rw [feed_cons _ hfirst, feed_cons _ hsecond]
  rfl

/-- No part of the bytes fed from `s` reaches FILL. -/
def NeverFills (bs : List Byte) (s : State) : Prop :=
  ∀ pre post t, bs = pre ++ post → feed pre s = .next t → t.phase ≠ .fill

theorem NeverFills.of_append {us vs : List Byte} (h : NeverFills (us ++ vs) s) : NeverFills us s :=
  fun pre post t hus => h pre (post ++ vs) t (by rw [hus, List.append_assoc])

/-- Noise from HUNT leaves the state as it was, or in SEEN with 0x0E its last byte. With re-examination every such last byte leads
to SEEN. -/
theorem feed_noise (hp : s.phase = .hunt) {noise : List Byte} (hnoise : NeverFills noise s) :
    (feed noise s = .next s ∧ (s.cfg.syncReexamine = true → noise.getLast? ≠ some 0x0E)) ∨
      (feed noise s = .next (s.enterPhase .seen) ∧ noise.getLast? = some 0x0E) := by
  induction noise using List.reverseRecOn with
  | nil => exact .inl ⟨rfl, fun _ => nofun⟩
  | append_singleton us b ih =>
    rw [List.getLast?_concat]
    obtain ⟨hus, _⟩ | ⟨hus, _⟩ := ih hnoise.of_append
    · have hb := feed_append_singleton hus (feedByte_in_hunt hp b)
      by_cases hmark : b = 0x0E
      · exact .inr ⟨by rw [hb, if_pos hmark], congrArg some hmark⟩
      · exact .inl ⟨by rw [hb, if_neg hmark], fun _ hlast => hmark (Option.some.inj hlast)⟩
    · have hb := feed_append_singleton hus (feedByte_after_marker1 hp b)
      by_cases hfill : b = 0xFF
      · rw [if_pos hfill] at hb
        exact absurd rfl (hnoise _ [] _ (List.append_nil _).symm hb)
      rw [if_neg hfill] at hb
      by_cases hagain : s.cfg.syncReexamine = true ∧ b = 0x0E
      · exact .inr ⟨by rw [hb, if_pos hagain], congrArg some hagain.2⟩
      · exact .inl ⟨by rw [hb, if_neg hagain], fun hr hlast => hagain ⟨hr, Option.some.inj hlast⟩⟩

end

/-- Settles O28: noise that leaves the state as it was has no effect on what follows, and noise that ends in SEEN meets the
marker's 0x0E there. -/
theorem noiseBeforeMarkerHasNoEffect : Obligations.NoiseBeforeMarkerHasNoEffect := by
  intro s noise hp hnoise
  have hfed := feed_noise hp hnoise
  refine ⟨fun frame hclean => ?noEffect, fun hlast => ?unchanged, fun t hr hfeed hseen => ?missed⟩
  case noEffect =>
    obtain ⟨hsame, _⟩ | ⟨hseen, hlast⟩ := hfed
    · exact feed_append _ hsame
    · have hr := hclean.resolve_right fun hne => hne hlast
      exact (feed_append _ hseen).trans (feed_marker1_of_reexamine hp hr _)
  case unchanged =>
    obtain ⟨hsame, _⟩ | ⟨_, hends⟩ := hfed
    · exact hsame
    · exact absurd hends hlast
  case missed =>
    obtain ⟨hsame, _⟩ | ⟨hends, _⟩ := hfed
    · cases hsame.symm.trans hfeed
      exact absurd (hp.symm.trans hseen) (by decide)
    · exact (feed_append _ hends).trans (feed_marker_missed hp hr)

end Sys2Proof.Machine

/-! SUPPORT. Proofs of the statements about the frame reader and the frame validator (spec/41_frame_reader_validator.md): the byte
that BYTE stores in FILL, and what the last byte of a frame leads to, in either variant. -/

namespace Sys2Proof.Machine

/-! ### The buffer with one byte stored (R53, R120) -/

section
variable {s : State} {n k : Nat}

/-- A store at `k` is seen there alone. -/
theorem read_storeByte (hk : s.cnt.toNat = k) (hwf : s.buf.wf n = true) (b : Byte) (j : Nat) :
    (s.storeByte b).buf.read j = if j = k then b else s.buf.read j := by
  rw [State.storeByte_buf, Memory.read_write hwf, hk]

/-- The same as the statements about the reader say it: the byte stored, and every other as it was. -/
theorem storeByte_stores_one (hk : s.cnt.toNat = k) (hwf : s.buf.wf n = true) (b : Byte) :
    (s.storeByte b).buf.read k = b ∧ ∀ j, j ≠ k → (s.storeByte b).buf.read j = s.buf.read j :=
  ⟨(read_storeByte hk hwf b k).trans (if_pos rfl), fun j hj => (read_storeByte hk hwf b j).trans (if_neg hj)⟩

end

/-- Settles O29: the frame is not yet full, so the byte is stored and counted. -/
theorem fillStoresOneByte : Obligations.FillStoresOneByte := by
  intro s b hp hmore hwf
  have hcnt := toNat_countByte_cnt (s := s.storeByte b) hmore
  have hkept : (s.storeByte b).buf.wf s.cfg.n = true := Memory.wf_write (by omega) hwf
  exact ⟨_, execByteFill_of_more hp hmore b, rfl, hcnt, hkept, storeByte_stores_one rfl hwf b⟩

/-! ### The last byte of a frame (R120 to R123) -/

/-- The last byte of a frame that the variant takes as valid completes it. -/
theorem execByteFill_of_valid {s : State} {b : Byte} (hp : s.phase = .fill) (hc : s.cnt.toNat + 1 = s.cfg.n)
    (hf : s.cfg.variant = .a → endMarkerValid (s.storeByte b).buf = true) :
    execByteFill b s = .next ((s.storeByte b).clearCnt.completeValid (s.storeByte b).buf) := by
  rw [execByteFill_of_last hp hc, State.completeFrame, validateFrame_of_valid (s := (s.storeByte b).clearCnt) hf]

/-- The end marker's test once the last byte of a Variant A frame is stored (R122). -/
theorem endMarkerValid_storeByte_iff {s : State} (hk : s.cnt.toNat = 15) (hwf : s.buf.wf 16 = true) (b : Byte) :
    endMarkerValid (s.storeByte b).buf = true ↔ s.buf.read 14 = 0x0D ∧ b = 0xFF :=
  endMarkerValid_iff_of_read fun i _ => read_storeByte hk hwf b i

/-- Settles O30: the end marker is valid, and `Decode_A` reads bytes that were in the buffer before the last. -/
theorem validFrameACommits : Obligations.ValidFrameACommits := by
  intro s hv hp hcnt hwf h14
  have hk : s.cnt.toNat = 15 := congrArg BitVec.toNat hcnt
  have hlast : s.cnt.toNat + 1 = s.cfg.n := by rw [hk, n_of_variantA hv]
  have hend := (endMarkerValid_storeByte_iff hk hwf 0xFF).mpr ⟨h14, rfl⟩
  refine ⟨_, execByteFill_of_valid hp hlast fun _ => hend, ?state, ?bytes⟩
  case state =>
    rw [completeValid_of_variantA (s := (s.storeByte 0xFF).clearCnt) hv,
      decodeA_of_read fun i _ => read_storeByte hk hwf 0xFF i]
    rfl
  case bytes =>
    rw [State.completeValid_buf]
    exact storeByte_stores_one hk hwf 0xFF

/-- Settles O32: every frame is valid in Variant B, and of the fields of `Decode_B` only the flag is the last byte. -/
theorem everyFrameBCommits : Obligations.EveryFrameBCommits := by
  intro s b hv hp hcnt hwf
  have hk : s.cnt.toNat = 53 := congrArg BitVec.toNat hcnt
  have hlast : s.cnt.toNat + 1 = s.cfg.n := by rw [hk, n_of_variantB hv]
  have hnotA : s.cfg.variant ≠ .a := by simp [hv]
  have hread := read_storeByte hk hwf b
  refine ⟨_, execByteFill_of_valid hp hlast fun ha => absurd ha hnotA, ?state, ?bytes⟩
  case state =>
    rw [completeValid_of_variantB (s := (s.storeByte b).clearCnt) hv, decodeB_of_read fun i _ => hread i,
      decodeAux_of_read fun i _ => hread i]
    rfl
  case bytes =>
    rw [State.completeValid_buf]
    exact storeByte_stores_one hk hwf b

/-! ### FrameInvalid (R124, R125) -/

/-- A completed Variant A frame with another end marker. -/
theorem validateFrame_of_invalid {s : State} {f : Memory} (hv : s.cfg.variant = .a) (hbad : ¬ endMarkerValid f = true) :
    s.validateFrame f = s.frameInvalid := by
  obtain ⟨hvalid, _⟩ | ⟨_, _, he⟩ := validateFrame_cases f s
  · exact absurd (hvalid hv) hbad
  · exact he

section
variable {s : State} {cap : Nat}

@[simp] theorem State.frameInvalid_buf : s.frameInvalid.buf = s.buf := by
  obtain ⟨_, he⟩ | ⟨_, he⟩ := frameInvalid_cases s <;> simp [he]

/-- Below the cap an invalid frame is a resynchronization (R124). -/
theorem frameInvalid_of_capNotReached (hcap : s.cfg.maxResync ≠ some s.resyncCnt) : s.frameInvalid = s.resync := by
  obtain ⟨hreached, _⟩ | ⟨_, he⟩ := frameInvalid_cases s
  · exact absurd ((resyncCapReached_iff s).mp hreached) hcap
  · exact he

/-- With `P_MAX_RESYNC` INF no invalid frame is counted (R124). -/
theorem frameInvalid_of_inf (hinf : s.cfg.maxResync = none) : s.frameInvalid = s.enterPhase .hunt := by
  rw [frameInvalid_of_capNotReached (by simp [hinf])]
  obtain ⟨_, he⟩ | ⟨cap, hfinite, _⟩ := resync_cases s
  · exact he
  · simp [hinf] at hfinite

/-- Below a finite cap the invalid frame is counted (R124). -/
theorem frameInvalid_of_belowCap (hfinite : s.cfg.maxResync = some cap) (hbelow : s.resyncCnt ≠ cap) :
    s.frameInvalid = s.countResync.enterPhase .hunt := by
  rw [frameInvalid_of_capNotReached (by simp [hfinite, hbelow.symm])]
  obtain ⟨hinf, _⟩ | ⟨_, _, he⟩ := resync_cases s
  · simp [hfinite] at hinf
  · exact he

/-- At the cap the invalid frame ends the cycle with ERR_RESYNC_LIMIT (R125, R205). -/
theorem frameInvalid_of_atCap (hp : s.phase = .fill) (hfinite : s.cfg.maxResync = some cap) (hat : s.resyncCnt = cap) :
    s.frameInvalid =
      { s with
        phase := .idle, cnt := 0, conn := .closed, inputs := withoutCollaborator s.inputs
        out := s.out ++ [.response ⟨.errResyncLimit, 0⟩, .request .closeConn] } := by
  have hraise : s.frameInvalid = s.raiseError .resyncLimit :=
    if_pos ((resyncCapReached_iff s).mpr (hfinite.trans (congrArg some hat.symm)))
  obtain ⟨hconnect, _⟩ | ⟨_, he⟩ := raiseError_cases .resyncLimit s
  · exact absurd (hp.symm.trans hconnect) (by decide)
  · simp [hraise, he, State.toIdle, State.enterPhase, State.clearCnt, State.requestClose, State.respond, State.emit,
      CycleError.status]

end

/-- Settles O31: the end marker is another, and FrameInvalid is handled by the cap. -/
theorem invalidFrameAResynchronizes : Obligations.InvalidFrameAResynchronizes := by
  intro s b hv hp hcnt hwf hbad
  have hk : s.cnt.toNat = 15 := congrArg BitVec.toNat hcnt
  have hlast : s.cnt.toNat + 1 = s.cfg.n := by rw [hk, n_of_variantA hv]
  have hinvalid := mt (endMarkerValid_storeByte_iff hk hwf b).mp hbad
  have hexec : exec (.byteFill b) s = .next (s.storeByte b).clearCnt.frameInvalid := by
    rw [← validateFrame_of_invalid (s := (s.storeByte b).clearCnt) hv hinvalid]
    exact execByteFill_of_last hp hlast b
  refine ⟨_, hexec, fun hinf => ?inf, fun cap hfinite hbelow => ?belowCap, fun cap hfinite hat => ?atCap, ?bytes⟩
  case inf =>
    rw [frameInvalid_of_inf (s := (s.storeByte b).clearCnt) hinf]
    rfl
  case belowCap =>
    rw [frameInvalid_of_belowCap (s := (s.storeByte b).clearCnt) hfinite hbelow]
    rfl
  case atCap =>
    rw [frameInvalid_of_atCap (s := (s.storeByte b).clearCnt) hp hfinite hat]
    rfl
  case bytes =>
    rw [State.frameInvalid_buf]
    exact storeByte_stores_one hk hwf b

/-! ### An invalid frame streamed (R126, R127) -/

/-- Back in HUNT, with the count at 0 as it was, a frame that filled the buffer has changed nothing else. -/
theorem State.frameFilled_enterPhase_hunt {s : State} (hp : s.phase = .hunt) (hcnt : s.cnt = 0) (f : List Byte) :
    (s.frameFilled f).enterPhase .hunt = { s with buf := s.buf.writeFrom 0 f } := by
  simp only [State.frameFilled, State.enterPhase, ← hp, ← hcnt]

/-- Settles O36: the buffer filled holds the frame, so its end marker is another, and FrameInvalid is handled by the cap. -/
theorem streamedInvalidFrameAIsDiscarded : Obligations.StreamedInvalidFrameAIsDiscarded := by
  intro s f hv hp hcnt hwf hlen hbad
  have hread : ∀ j, j < 16 → (s.buf.writeFrom 0 f).read j = f.getD j 0 := fun j hj =>
    Memory.read_writeFrom_zero hwf hlen hj
  have hinvalid := mt (endMarkerValid_iff_of_read (F := fun i => f.getD i 0) hread).mp hbad
  have hfeed : feed (0x0E :: 0xFF :: f) s = .next (s.frameFilled f).frameInvalid := by
    rw [feed_markedFrame hp (hlen.trans (n_of_variantA hv).symm),
      validateFrame_of_invalid (s := s.frameFilled f) hv hinvalid]
  have hback := State.frameFilled_enterPhase_hunt hp hcnt f
  refine ⟨_, hfeed, fun hinf => ?inf, fun cap hfinite hbelow => ?belowCap, fun cap hfinite hat => ?atCap⟩
  case inf =>
    rw [frameInvalid_of_inf (s := s.frameFilled f) hinf]
    exact hback
  case belowCap =>
    rw [frameInvalid_of_belowCap (s := s.frameFilled f) hfinite hbelow]
    exact congrArg State.countResync hback
  case atCap =>
    rw [frameInvalid_of_atCap (s := s.frameFilled f) rfl hfinite hat, hcnt]
    rfl

end Sys2Proof.Machine

/-! SUPPORT. Proofs of the statements about the poll gate and the host commands (spec/43_poll_gate_host.md): the cooldown that an
UPDATE is held back by, the read commands, the reserved opcodes, and the response that starts the marker hunt. -/

namespace Sys2Proof.Machine

/-! ### UPDATE within the cooldown (R160, R161, R180) -/

/-- An UPDATE that comes too soon answers OK_SKIPPED and does nothing else (R160, R161). -/
theorem execUpdate_of_pollTooSoon {now : Ticks} {s : State} (h : s.pollTooSoon now) :
    execUpdate now s = .next (s.respond .okSkipped 0) :=
  execUpdate_of_withinCooldown ((withinCooldown_iff_pollTooSoon now s).mpr h)

/-- Settles O13: the gate's test in exact arithmetic is the one that UPDATE makes. -/
theorem updateWithinCooldownSkips : Obligations.UpdateWithinCooldownSkips :=
  fun _ _ hsoon => execUpdate_of_pollTooSoon hsoon

/-- The gate reads the configuration and the poll registers alone (R160). -/
theorem pollTooSoon_congr {s t : State} (hcfg : t.cfg = s.cfg) (htime : t.lastPollTime = s.lastPollTime)
    (hvalid : t.lastPollValid = s.lastPollValid) (now : Ticks) : t.pollTooSoon now ↔ s.pollTooSoon now := by
  rw [State.pollTooSoon, State.pollTooSoon, hcfg, htime, hvalid]

/-- An UPDATE never leaves the block idle in place of a cycle: it skips, or another cycle starts (R161, R163). -/
theorem execUpdate_stays_busy {now : Ticks} {s t : State} (h : execUpdate now s = .next t) (hbusy : s.phase ≠ .idle) :
    t.phase ≠ .idle := by
  obtain ⟨_, he⟩ | ⟨_, hidle, _⟩ | ⟨_, _, he⟩ := execUpdate_cases now s
  · cases he.symm.trans h
    exact hbusy
  · exact absurd hidle hbusy
  · cases he.symm.trans h
    exact nofun

/-- Settles O19: an UPDATE does not end a cycle for good, and nothing else but RESET touches what the gate reads. -/
theorem endedCycleKeepsItsCooldown : Obligations.EndedCycleKeepsItsCooldown := by
  intro i s t now hbusy hexec hidle hreset hsoon
  have hupdate : ∀ now', i ≠ .update now' := by
    rintro now' rfl
    exact execUpdate_stays_busy hexec hbusy hidle
  have heffect := exec_effect hexec
  obtain ⟨htime, hvalid⟩ := heffect.pollRegs_eq hreset hupdate
  exact execUpdate_of_pollTooSoon ((pollTooSoon_congr heffect.cfg_eq htime hvalid now).mpr hsoon)

/-! ### The read commands (R78, R167 to R177) -/

/-- A one-byte field's data is its value. -/
theorem byteData_eq_ofNat (b : Byte) : byteData b = BitVec.ofNat 16 b.toNat := by
  rw [byteData, BitVec.ofNat_toNat]

/-- RD_STATE's data is the state code's value above the raw byte's (R78, R168). -/
theorem stateData_eq_ofNat (code : BitVec 3) (raw : Byte) :
    stateData code raw = BitVec.ofNat 16 (256 * code.toNat + raw.toNat) := by
  have hcode := code.isLt
  have hraw := raw.isLt
  apply BitVec.eq_of_toNat_eq
  rw [stateData, BitVec.toNat_append, ← Nat.shiftLeft_add_eq_or_of_lt hraw, BitVec.toNat_append, Nat.shiftLeft_eq]
  simp only [BitVec.toNat_ofNat, Nat.zero_mod, Nat.zero_shiftLeft, Nat.zero_or]
  omega

/-- A read of a field that both variants have answers by `snap_valid`. -/
theorem sharedRead_eq (d : BitVec 16) (s : State) :
    sharedRead d s =
      { s with out := s.out ++ [.response (if s.snapValid = true then ⟨.okData, d⟩ else ⟨.errNoData, 0⟩)] } := by
  cases hv : s.snapValid <;> simp [sharedRead, State.respond, State.emit, hv]

/-- A read of a Variant B field answers by the variant first (R34, R177). -/
theorem variantBRead_eq (d : BitVec 16) (s : State) :
    variantBRead d s =
      { s with
        out := s.out ++ [.response (if s.cfg.variant = .a then ⟨.errNotPresent, 0⟩
          else if s.snapValid = true then ⟨.okData, d⟩ else ⟨.errNoData, 0⟩)] } := by
  cases hv : s.cfg.variant with
  | a => simp [variantBRead, State.respond, State.emit, hv]
  | b => simp [variantBRead, sharedRead_eq, hv]

/-- Settles O11: each read is one of the two kinds, of a field whose data is that number. -/
theorem readCommandsAnswer : Obligations.ReadCommandsAnswer := by
  intro s _ shared onlyB answer
  have hshared : ∀ {d : BitVec 16} {n : Nat}, d = BitVec.ofNat 16 n → .next (sharedRead d s) = answer (shared n) := by
    rintro _ n rfl
    exact congrArg Host.Outcome.next (sharedRead_eq _ s)
  have honlyB : ∀ b : Byte, .next (variantBRead (byteData b) s) = answer (onlyB b.toNat) := by
    intro b
    rw [byteData_eq_ofNat]
    exact congrArg Host.Outcome.next (variantBRead_eq _ s)
  have htemp : s.snap.temperature = BitVec.ofNat 16 s.snap.temperature.toNat := by simp
  exact ⟨hshared htemp, hshared (stateData_eq_ofNat _ _), hshared (byteData_eq_ofNat _), hshared (byteData_eq_ofNat _),
    hshared (byteData_eq_ofNat _), honlyB _, honlyB _, honlyB _, honlyB _, honlyB _⟩

/-! ### The reserved opcodes (R75, R178) -/

/-- The opcode map's reserved rows are the opcodes 0x0 and 0xC to 0xF. -/
theorem decodeCommand_reserved_iff (op : BitVec 4) (x : Nat) :
    (decodeCommand op x = .reserved0 x ∨ ∃ l, decodeCommand op x = .reservedCToF l x) ↔
      op.toNat = 0 ∨ 12 ≤ op.toNat := by
  unfold decodeCommand
  split
  case h_1 hop => exact iff_of_true (.inl rfl) (.inl hop)
  case h_13 =>
    have hop : 12 ≤ op.toNat := by
      simp only [imp_false] at *
      omega
    exact iff_of_true (.inr ⟨_, rfl⟩) (.inr hop)
  all_goals exact iff_of_false (by simp) (by omega)

/-- Settles O12: both rows answer alike, and the word's opcode is the number above its operand. -/
theorem reservedOpcodesAreIllegal : Obligations.ReservedOpcodesAreIllegal := by
  refine ⟨fun s x l => ⟨rfl, rfl⟩, fun w op x p hop hx => ?_⟩
  have hval : (BitVec.ofNat 4 op).toNat = op := (BitVec.toNat_ofNat op 4).trans (Nat.mod_eq_of_lt hop)
  have hdecode : decode w p (.command (op * 2 ^ w + x)) = .ok (decodeCommand (BitVec.ofNat 4 op) x) := by
    have hword := decode_commandWord p (BitVec.ofNat 4 op) (decide_eq_true hx : operandFits w x = true)
    rwa [commandWord, hval] at hword
  simp only [hdecode, Except.ok.injEq]
  rw [decodeCommand_reserved_iff, hval]

/-! ### CONN_OK (R164) -/

/-- Settles O20: the phase is the one that CONN_OK tests, and it writes the phase and the connection. -/
theorem connOkStartsHunt : Obligations.ConnOkStartsHunt :=
  fun _ hp => if_pos hp

end Sys2Proof.Machine

/-! SUPPORT. Proofs of the statements about the errors (spec/60_exceptions.md): what ending a cycle with an error leaves, as an
update of the whole state. -/

namespace Sys2Proof.Machine

/-! ### `raise E` (R200, R205) -/

/-- An error in CONNECT ends the cycle without a CLOSE, and the offers stay: no connection exists yet (R205). -/
theorem raiseError_of_connect {s : State} (hp : s.phase = .connect) (e : CycleError) :
    s.raiseError e =
      { s with phase := .idle, cnt := 0, conn := .closed, out := s.out ++ [.response ⟨e.status, 0⟩] } := by
  obtain ⟨_, he⟩ | ⟨hne, _⟩ := raiseError_cases e s
  · rw [he]
    rfl
  · exact absurd hp hne

/-- An error outside CONNECT ends the cycle with a CLOSE after its response, which discards the collaborator's offers
(R205, R213). -/
theorem raiseError_of_ne_connect {s : State} (hp : s.phase ≠ .connect) (e : CycleError) :
    s.raiseError e =
      { s with
        phase := .idle, cnt := 0, conn := .closed, inputs := withoutCollaborator s.inputs
        out := s.out ++ [.response ⟨e.status, 0⟩, .request .closeConn] } := by
  obtain ⟨hconnect, _⟩ | ⟨_, he⟩ := raiseError_cases e s
  · exact absurd hconnect hp
  · have hout : ((s.respond e.status 0).requestClose).toIdle.out =
        s.out ++ [.response ⟨e.status, 0⟩, .request .closeConn] := by simp
    rw [he, ← hout]
    rfl

/-- Settles O26: the code is the table's (R200), and the phase decides about the CLOSE. -/
theorem raiseEndsCycle : Obligations.RaiseEndsCycle := by
  intro s e code
  have hcode : code = e.status := by cases e <;> rfl
  rw [hcode]
  split
  · exact raiseError_of_connect ‹_› e
  · exact raiseError_of_ne_connect ‹_› e

end Sys2Proof.Machine

/-! SUPPORT. Proofs of the statements about reset and hazards (spec/70_reset_and_hazards.md): the gate after a RESET event. -/

namespace Sys2Proof.Machine

/-- Where no poll is on record the gate holds nothing back, whatever `last_poll_time` and `now` (R160, R233). -/
theorem not_pollTooSoon_of_no_poll {s : State} (hvalid : s.lastPollValid = false) (now : Ticks) :
    ¬ s.pollTooSoon now :=
  fun ⟨hpolled, _⟩ => Bool.false_ne_true (hvalid.symm.trans hpolled)

/-- Settles O17: RESET clears `last_poll_valid`, and a gate without a recorded poll lets the UPDATE start a cycle in IDLE. -/
theorem firstUpdateAfterResetPasses : Obligations.FirstUpdateAfterResetPasses := by
  intro s now hnow
  have hpass : ¬ s.resetEvent.pollTooSoon now := not_pollTooSoon_of_no_poll s.resetEvent_lastPollValid now
  have hstart := updateInIdleStartsCycle s.resetEvent now hnow hpass s.resetEvent_phase
  exact ⟨s.resetEvent, _, rfl, hstart, rfl, rfl, rfl, rfl⟩

end Sys2Proof.Machine
